-- ==== Sys2Proof/Word.lean ====
section
/-! DEFINITION. The word types of the CF640: the byte of a frame and the sets that the layouts of 12_layouts_pins_and_ratings.md carry as bits. A set's member `i` is the bit at place `i` counted from the most significant bit, as section 12.1 lays sets out. -/

namespace Sys2Proof

/-- One byte of a frame (R160). -/
abbrev Byte := BitVec 8

/-- A landing set of L0..L127, L0 in the most significant bit (12.1, R2). -/
abbrev LandingSet := BitVec 128

/-- A set of zones 0..15, zone 0 in the most significant bit (12.1, R144, R153). -/
abbrev ZoneSet := BitVec 16

/-- A day-type set: MON in the most significant bit, then TUE to SUN, and HOLIDAY in the least (12.1, R43). -/
abbrev DaySet := BitVec 8

/-- A set of event kinds, kind 0 in the most significant bit; kinds 20 to 23 do not exist (12.1). -/
abbrev EventSet := BitVec 24

/-- A reader word's bits as a PRESENT frame carries them, bit 0 in the most significant bit (12.2, R69). -/
abbrev ReaderBits := BitVec 64

end Sys2Proof
end

