-- ==== Sys2Proof/Syntax.lean ====
section
/-! DEFINITION. The commands of the CF640: one constructor for each row of spec/opcode_table.json, in the table's order, with the operands the command's occasion has (assumption log 4). -/

namespace Sys2Proof

/-- The two ports of the part (09_the_call_link.md). -/
inductive Port where
  /-- the Terminal Port -/
  | terminal
  /-- the Group Port -/
  | group
  deriving DecidableEq, Repr

/-- A level of an alarm input (R146). -/
inductive Level where
  | low
  | high
  deriving DecidableEq, Repr

/-- A reception as it stands when the line has been idle for 3.5 character times: every byte received,
and whether every character had its stop bit (R161, R162). -/
structure Reception where
  bytes : List Byte
  stopBits : Bool
  deriving DecidableEq, Repr

/-- The commands. A command that ends a reception carries it; an expiry names its timer; a save step says
whether the store verified it; a management command takes its request from the request FIFO. -/
inductive Instr where
  | fullReset
  | fullResetEnd
  | loadingEnd
  | clockAdvance
  | sendPoll
  | replyTimeExpiry
  | pollReply (r : Reception)
  | presentReply (r : Reception)
  | decayExpiry (station : Nat)
  | holdExpiry (station : Nat)
  | sendAnswer
  | sendGToTRelay
  | receptionEnd (port : Port) (r : Reception)
  | receiveMreq (r : Reception)
  | receiveGToTRelay (r : Reception)
  | receiveAssign (r : Reception)
  | receiveDecline (r : Reception)
  | answerTimeout (group : Nat) (tag : Nat)
  | repeatGuardExpiry (trip : Nat)
  | transferWindowExpiry (trip : Nat)
  | sendCancel
  | sendCall
  | sendMrsp
  | sendNotice
  | sendTToGRelay
  | sendReport
  | alarmInputChange (line : Nat) (level : Level)
  | debounceExpiry (line : Nat)
  | saveMarkCleared (verified : Bool)
  | saveSectorsErased (verified : Bool)
  | saveTablesProgrammed (verified : Bool)
  | saveMarkWritten (verified : Bool)
  | read
  | find
  | readStatus
  | writeCredential
  | eraseCredential
  | writeProfile
  | eraseProfile
  | writeTenant
  | eraseTenant
  | writeHoliday
  | eraseHoliday
  | writeLanding
  | eraseLanding
  | writeGroup
  | eraseGroup
  | writeSkyLobby
  | eraseSkyLobby
  | writeTerminal
  | eraseTerminal
  | writeFormat
  | eraseFormat
  | writeFacilityRange
  | eraseFacilityRange
  | writeAlarmLine
  | eraseAlarmLine
  | writeSettings
  | switchBanks
  | copyActiveToStandby
  | saveImage
  | restart
  | restartMade
  | startService
  | setTime
  | setSiteCode
  | releaseTerminal
  | ackLine
  | lockZones
  | unlockZones
  | holdGroup
  | resumeGroup
  | enterRecall
  | leaveRecall
  | clearEvents
  | receiverIdle (port : Port)
  | receptionStart (port : Port)
  | undefinedOperation
  deriving DecidableEq, Repr

end Sys2Proof
end

