-- ==== Sys2Proof/Config.lean ====
section
/-! DEFINITION. What is fixed for the machine: capacities and times the spec states as numbers, and the free byte that stands where the spec gives a byte no value. -/

namespace Sys2Proof.Config

/-- Calls a Call Queue holds (R126). -/
def queueRoom : Nat := 8
/-- Entries the Cancel List holds (R139). -/
def cancelRoom : Nat := 32
/-- Records the Trip List holds (R107). -/
def tripRoom : Nat := 512
/-- Requests the request FIFO holds (R166). -/
def requestRoom : Nat := 8
/-- Responses the response FIFO holds (R173). -/
def responseRoom : Nat := 4
/-- Notices the Notice FIFO holds (R182). -/
def noticeRoom : Nat := 8
/-- Reports the Report FIFO holds (R185). -/
def reportRoom : Nat := 32
/-- Frames each relay FIFO holds (R168, R169). -/
def relayRoom : Nat := 16
/-- The highest tag (R128). -/
def lastTagValue : Nat := 4095
/-- The highest trip number (R109). -/
def lastTripValue : Nat := 65535
/-- The reply time of a poll, in ms (R63). -/
def replyTime : Nat := 20
/-- The T-port station of the part itself (00_scope.md, Stations; R63). -/
def tStation : Nat := 0

/-- A byte to which the spec gives no value, one for each reading of the model's counter.
It has no body, so nothing can be proved of its value (assumption log 10, 11). -/
opaque freeByte : Nat → Byte

end Sys2Proof.Config
end

