-- ==== Sys2Proof/Machine/State.lean ====
section
/-! DEFINITION. Everything the spec says the CF640 holds, as plain data, and the state right after a full reset of a part as delivered. Each record's `default` (the value its fields default to) is its reset contents, so a table at its reset contents lists nothing. -/

namespace Sys2Proof.Machine

/-- A table: the records that differ from their reset contents, by index, in rising order of index.
Its operations and its canonical form (`Store.wf`) stand in Machine/Ops.lean. -/
abbrev Store (α : Type) := List (Nat × α)

/-- A badge key (00_scope.md, Badges and keys). -/
structure BadgeKey where
  facility : Nat
  card : Nat
  deriving DecidableEq, Repr

/-- A reading of the Week Clock taken as a time stamp (R51). -/
structure Moment where
  day : Nat
  minute : Nat
  second : Nat
  deriving DecidableEq, Repr

/-- The Week Clock (R48). -/
structure WeekClock where
  day : Nat := 0
  minute : Nat := 0
  second : Nat := 0
  isSet : Bool := false
  deriving DecidableEq, Repr

/-! ## The tables of the image (R186) -/

/-- State of a badge entry (R19). -/
inductive EntryState where
  | active | suspended | lost
  deriving DecidableEq, Repr

/-- Class of a badge entry (R19). -/
inductive CredClass where
  | staff | visitor | service | override
  deriving DecidableEq, Repr

/-- A badge entry (R19); an absent field is `none`. -/
structure BadgeEntry where
  key : BadgeKey
  state : EntryState
  cls : CredClass
  profile : Nat
  tenant : Option Nat
  startDay : Nat
  endDay : Option Nat
  trips : Option Nat
  defaultLanding : Option Nat
  needs : Bool
  deriving DecidableEq, Repr

/-- A time band of a profile (R43). -/
structure Band where
  days : DaySet
  start : Nat
  length : Nat
  landings : LandingSet
  deriving DecidableEq, Repr

/-- A tenant record (R46). -/
structure Tenant where
  lease : LandingSet := 0
  suspended : Bool := false
  deriving DecidableEq, Repr

/-- A landing record (R3). -/
structure Landing where
  zone : Nat := 0
  common : Bool := false
  serviceOnly : Bool := false
  deriving DecidableEq, Repr

/-- One policy bank (R38). A band is indexed by profile times 4 plus slot (12.4). -/
structure PolicyBank where
  profiles : Store (Option Band) := []
  tenants : Store Tenant := []
  holidays : Store (Option Nat) := []
  landings : Store Landing := []
  deriving DecidableEq, Repr

/-- The names of the two banks (R38). -/
inductive BankName where
  | a | b
  deriving DecidableEq, Repr

/-- A terminal's binding (R58). -/
inductive Binding where
  | routed
  | fixed (group : Nat)
  deriving DecidableEq, Repr

/-- The configuration part of a terminal record (R58). -/
structure TerminalConfig where
  configured : Bool := false
  origin : Nat := 0
  format : Nat := 0
  binding : Binding := .routed
  deriving DecidableEq, Repr

/-- The configuration of a lift group (R5). -/
structure GroupConfig where
  station : Option Nat := none
  served : LandingSet := 0
  limit : Nat := 4
  timeout : Nat := 8
  deriving DecidableEq, Repr

/-- A Format Table entry (R68); `split` is parity SPLIT. -/
structure Format where
  length : Nat := 26
  facilityStart : Nat := 1
  facilityLength : Nat := 8
  cardStart : Nat := 9
  cardLength : Nat := 16
  split : Bool := true
  deriving DecidableEq, Repr

/-- A configured Facility Range (R71). -/
structure FacilityRange where
  base : Nat
  count : Nat
  deriving DecidableEq, Repr

/-- What an alarm line does while in force (R144). -/
inductive AlarmAction where
  | notify | lockZones | recall
  deriving DecidableEq, Repr

/-- The configuration of an alarm line (R144); `edge` is trigger EDGE, `activeLow` polarity ACTIVE_LOW. -/
structure LineConfig where
  activeLow : Bool := true
  edge : Bool := false
  debounce : Nat := 1
  mask : Bool := true
  action : AlarmAction := .notify
  zones : ZoneSet := 0
  deriving DecidableEq, Repr

/-- The Settings record (R179). -/
structure Settings where
  ownStation : Nat := 90
  headEnd : Nat := 100
  landingCount : Nat := 128
  epochWeekday : Nat := 0
  nightStart : Nat := 0
  nightLength : Nat := 0
  threshold : Nat := 5
  decayCode : Nat := 1
  latchLimit : Nat := 3
  holdIndex : Nat := 2
  extendedHold : Bool := false
  repeatGuard : Nat := 10
  transferWindow : Nat := 180
  reporting : Bool := true
  enables : EventSet := 0xFFFFF0
  gToT : List Byte := []
  tToG : List Byte := []
  deriving DecidableEq, Repr

/-- The tables and records the image holds (R186). In an image `bankA` is its first policy bank and
`bankB` its second (R42). -/
structure Tables where
  bankA : PolicyBank := {}
  bankB : PolicyBank := {}
  credentials : Store (Option BadgeEntry) := []
  terminals : Store TerminalConfig := []
  groups : Store GroupConfig := []
  skyLobbies : Store (Option Nat) := []
  formats : Store Format := []
  facilities : Store (Option FacilityRange) := []
  alarmLines : Store LineConfig := []
  settings : Settings := {}
  deriving DecidableEq, Repr

/-! ## The dynamic state beside the tables -/

/-- Part state (R190). -/
inductive PartState where
  | loading | running | unconfigured
  deriving DecidableEq, Repr

/-- A RESTART on its way (R173): none; answered OK, its MRSP still in the response FIFO; its MRSP sent. -/
inductive RestartPhase where
  | none | answered | transmitted
  deriving DecidableEq, Repr

/-- Service state of a terminal (R59): AWAITING carries the pending trip, HELD the end of its hold time,
so that neither stands in any other state. -/
inductive TerminalService where
  | idle
  | awaiting (trip : Nat)
  | held (until_ : Nat)
  | latched
  deriving DecidableEq, Repr

/-- The dynamic part of a terminal record (R59). `decay` is the end of the running decay timer. -/
structure TerminalState where
  absent : Bool := false
  misses : Nat := 0
  service : TerminalService := .idle
  overrun : Bool := false
  tally : Nat := 0
  decay : Option Nat := none
  holds : Nat := 0
  deriving DecidableEq, Repr

/-- The exchange in progress on the T-port (R63, R65): the polled station, the end of its reply time,
whether a reply has begun, and whether the station's record has become unconfigured since. -/
structure Exchange where
  station : Nat
  deadline : Nat
  begun : Bool
  stale : Bool
  deriving DecidableEq, Repr

/-- State of a receiver (R161). -/
inductive Receiver where
  | sync | idle | receiving
  deriving DecidableEq, Repr

/-- Verdict of an answer or a report (R103). -/
inductive Verdict where
  | admitted | repeated | denied | retry
  deriving DecidableEq, Repr

/-- The reasons of a DENY or a RETRY (05, Verdicts and Reasons at a Glance). -/
inductive Reason where
  | unconfigured | serviceSuspended | terminalHeld | terminalLatched | unreadable
  | foreignFacility | unknownBadge | suspended | lost | tenantSuspended | notYetValid | expired
  | noTripsLeft | noDefault | badDestination | sameLanding | serviceOnly | zoneLocked
  | clockUnset | notPermitted | otherBank | noRoute | noService | groupBusy | noAnswer | superseded
  deriving DecidableEq, Repr

/-- An answer in the answer FIFO (R103). -/
structure Answer where
  terminal : Nat
  verdict : Verdict
  reason : Option Reason
  destination : Option Nat
  car : Option Nat
  transfer : Option Nat
  held : Bool
  deriving DecidableEq, Repr

/-- State of a trip (R108). -/
inductive TripState where
  | queued | called | assigned | awaitingTransfer
  deriving DecidableEq, Repr

/-- A trip record (R108). `expiry` is a moment of `State.now`. -/
structure Trip where
  number : Nat
  key : BadgeKey
  terminal : Nat
  origin : Nat
  final : Nat
  legs : Nat
  transfer : Option Nat
  leg : Nat
  group : Nat
  tag : Nat
  car : Option Nat
  state : TripState
  created : Moment
  expiry : Option Nat
  deriving DecidableEq, Repr

/-- The leg marker of a call (R126). -/
inductive LegMarker where
  | oneOfOne | oneOfTwo | twoOfTwo
  deriving DecidableEq, Repr

/-- A queued call (R126). -/
structure Call where
  group : Nat
  trip : Nat
  tag : Nat
  origin : Nat
  destination : Nat
  needs : Bool
  marker : LegMarker
  deriving DecidableEq, Repr

/-- An outstanding call: a call and its deadline, a moment of `State.now` (R127). -/
structure Outstanding where
  call : Call
  deadline : Nat
  deriving DecidableEq, Repr

/-- Service state of a group (R9). -/
inductive GroupService where
  | inService | silent | held
  deriving DecidableEq, Repr

/-- What the part keeps for a group beside its configuration: service state and streak (R9), Call Queue
(R126) and Outstanding Call Table (R127). -/
structure GroupState where
  service : GroupService := .inService
  streak : Nat := 0
  queue : List Call := []
  outstanding : List Outstanding := []
  deriving DecidableEq, Repr

/-- An entry of the Cancel List (R139). -/
structure Cancel where
  group : Nat
  tag : Nat
  deriving DecidableEq, Repr

/-- Line state (08, section 8.3). -/
inductive LineStatus where
  | normal | active | latched
  deriving DecidableEq, Repr

/-- The dynamic state of an alarm line (R146, R147): accepted level, end of the running debounce timer,
line state. -/
structure LineState where
  accepted : Option Level := none
  timer : Option Nat := none
  status : LineStatus := .normal
  deriving DecidableEq, Repr

/-- Building mode (R155). -/
inductive BuildingMode where
  | normal | recall
  deriving DecidableEq, Repr

/-- Response codes (12.4). -/
inductive Code where
  | ok | okClamped | notFound | bucketFull | badTable | badIndex | badField | notAuthorized
  | busy | locked | stillActive
  deriving DecidableEq, Repr

/-- A response in the response FIFO: the request number and operation as the MREQ carried them, the code
and the data part (R174). -/
structure Response where
  number : Byte
  operation : Byte
  code : Code
  data : List Byte
  deriving DecidableEq, Repr

/-- State of the site code record (R177). -/
inductive SiteState where
  | blank | set | locked
  deriving DecidableEq, Repr

/-- The site code record (R177). -/
structure SiteCode where
  code : BitVec 32 := 0
  state : SiteState := .blank
  deriving DecidableEq, Repr

/-- The twenty event kinds, in the order of their numbers (10, section 10.5). -/
inductive EventKind where
  | terminalHeld | terminalLatched | terminalAbsent | terminalPresent | groupSilent
  | groupRestored | alarmRaised | alarmCleared | recallEntered | recallLeft | lostBadgeSeen
  | portOverrun | linkErrors | relayLost | cancelLost | reportsLost | saveDone | saveFailed
  | authFailed | clockUnset
  deriving DecidableEq, Repr

/-- Status and count of an event kind (R181); `raised` is status set. -/
structure EventCell where
  raised : Bool := false
  count : Nat := 0
  deriving DecidableEq, Repr

/-- A notice: the kind and the count fixed when it was queued (R182). -/
structure Notice where
  kind : EventKind
  count : Nat
  deriving DecidableEq, Repr

/-- A decision report (R106; 12.3, REPORT); `clockSet` is the clock state at the decision. -/
structure Report where
  time : Moment
  clockSet : Bool
  terminal : Nat
  key : Option BadgeKey
  request : Byte
  destination : Option Nat
  verdict : Verdict
  reason : Option Reason
  legs : Option Nat
  deriving DecidableEq, Repr

/-- A VALID image: the sequence its completion mark carries, and its tables (R186, R187). -/
structure Image where
  sequence : Nat
  tables : Tables
  deriving DecidableEq, Repr

/-- The step of a save that is in progress (R188). -/
inductive SaveStep where
  | clearMark | eraseSectors | programTables | writeMark
  deriving DecidableEq, Repr

/-- A save in progress: its step and the snapshot it captured (R188). -/
structure SaveJob where
  step : SaveStep
  snapshot : Tables
  deriving DecidableEq, Repr

/-- The state of the CF640 and the queue of commands waiting for it. Its defaults are the state right after
a full reset of a part as delivered (R192; assumption log 5). -/
structure State where
  /-- held in full reset (R194) -/
  resetHeld : Bool := false
  /-- part state (R190) -/
  partState : PartState := .loading
  /-- a RESTART answered and not yet made (R173) -/
  restart : RestartPhase := .none
  /-- ms elapsed since the full reset ended (R51, R194) -/
  now : Nat := 0
  /-- the moment of the Week Clock's next advance (R49) -/
  nextSecond : Nat := 1000
  /-- the Week Clock (R48) -/
  clock : WeekClock := {}
  /-- the tables in RAM (R186) -/
  tables : Tables := {}
  /-- the active bank (R38) -/
  activeBank : BankName := .a
  /-- population count of the Credential Table (R35) -/
  population : Nat := 0
  /-- dynamic parts of the Terminal Table, by station 1..64 (R59) -/
  terminals : Store TerminalState := []
  /-- round count of the polling (R62) -/
  roundCount : Nat := 0
  /-- the last station the round has passed (R62) -/
  roundPosition : Nat := 0
  /-- the poll in progress (R63) -/
  exchange : Option Exchange := none
  /-- T-port receiver (R161) -/
  tReceiver : Receiver := .sync
  /-- G-port receiver (R161) -/
  gReceiver : Receiver := .sync
  /-- the bytes last put on the T-port pair (assumption log 17) -/
  tLine : Option (List Byte) := none
  /-- the bytes last put on the G-port transmit pair (assumption log 17) -/
  gLine : Option (List Byte) := none
  /-- answer FIFO (R67) -/
  answers : List Answer := []
  /-- G-to-T relay FIFO (R168) -/
  toTerminals : List (List Byte) := []
  /-- T-to-G relay FIFO (R169) -/
  toNetwork : List (List Byte) := []
  /-- last-served group of the G-port arbiter (R171) -/
  lastServed : Nat := 6
  /-- Trip List, oldest first (R107) -/
  trips : List Trip := []
  /-- last-number register of the trip numbers (R109) -/
  lastTrip : Nat := 0
  /-- service state, streak and calls of the groups 1..6 (R9, R126, R127) -/
  groups : Store GroupState := []
  /-- last-tag register (R128) -/
  lastTag : Nat := 0
  /-- Cancel List (R139) -/
  cancels : List Cancel := []
  /-- raw levels of ALM0..ALM7 (R146; assumption log 6) -/
  inputs : Store Level := []
  /-- dynamic state of the alarm lines 0..7 (R146, R147) -/
  lines : Store LineState := []
  /-- management lock set (R153) -/
  lockSet : ZoneSet := 0
  /-- management recall flag (R155) -/
  recallFlag : Bool := false
  /-- building mode (R155) -/
  mode : BuildingMode := .normal
  /-- request FIFO: the payloads of the MREQ frames (R166) -/
  requests : List (List Byte) := []
  /-- response FIFO (R173) -/
  responses : List Response := []
  /-- site code record (R177) -/
  siteCode : SiteCode := {}
  /-- status and count of the event kinds 0..19 (R181) -/
  events : Store EventCell := []
  /-- Notice FIFO (R182) -/
  notices : List Notice := []
  /-- Report FIFO (R185) -/
  reports : List Report := []
  /-- the image, none while INVALID (R186, R187) -/
  image : Option Image := none
  /-- the save in progress, none while the store is IDLE (R187, R188) -/
  saving : Option SaveJob := none
  /-- held image sequence (R187) -/
  imageSequence : Nat := 0
  /-- the model's own counter, with which the free bytes are read (assumption log 24) -/
  freeCount : Nat := 0
  /-- the commands waiting, first in, first out (assumption log 1) -/
  pending : List Instr := []
  deriving DecidableEq, Repr

/-- The state right after the full reset of a part as delivered has ended (R190, R192; assumption log 5). -/
def State.reset : State := {}

/-- The part has no fault: the spec gives none (INVENTORY.md, Faults), so no command raises one. -/
inductive Fault where
  deriving DecidableEq, Repr

/-- The refusals. -/
inductive Refusal where
  /-- Raised by `exec` alone, for a command that has no meaning yet; safe. No arm raises it. -/
  | notModelled (mnemonic : String)
  deriving DecidableEq, Repr

end Sys2Proof.Machine
end

