-- ==== Sys2Proof/Machine/Store.lean ====
section
/-! DEFINITION. The operations on a `Store`, the sparse table in which the state keeps every indexed table. `d` is throughout what an unlisted index reads as: the record's reset contents. -/

namespace Sys2Proof.Machine

variable {α : Type}

/-- The record at index `i`. -/
def Store.get (d : α) : Store α → Nat → α
  | [], _ => d
  | (k, v) :: t, i => if k = i then v else Store.get d t i

/-- The table without index `i`. -/
def Store.remove (t : Store α) (i : Nat) : Store α := t.filter (fun e => e.1 ≠ i)

/-- The table with `v` listed at index `i`, indexes kept rising. -/
def Store.insert : Store α → Nat → α → Store α
  | [], i, v => [(i, v)]
  | (k, w) :: t, i, v =>
    if i < k then (i, v) :: (k, w) :: t
    else if i = k then (i, v) :: t
    else (k, w) :: Store.insert t i v

/-- Write `v` at index `i`; writing `d` unlists the index, so that equal tables are equal data. -/
def Store.set [DecidableEq α] (d : α) (t : Store α) (i : Nat) (v : α) : Store α :=
  if v = d then Store.remove t i else Store.insert t i v

/-- Apply `f` to every listed record. -/
def Store.mapValues [DecidableEq α] (d : α) (f : α → α) (t : Store α) : Store α :=
  (t.map (fun e => (e.1, f e.2))).filter (fun e => e.2 ≠ d)

/-- The canonical form: indexes strictly rising, no record equal to `d`. -/
def Store.wf [DecidableEq α] (d : α) : Store α → Bool
  | [] => true
  | (k, v) :: t => decide (v ≠ d) && t.all (fun e => decide (k < e.1)) && Store.wf d t

end Sys2Proof.Machine
end

