-- ==== Sys2Proof/Machine/Operands.lean ====
section
/-! DEFINITION. The forms in which the part takes and gives values: numbers, sets and keys in bytes, the frame and its check, the reader word, and the record layouts of 12_layouts_pins_and_ratings.md. -/

namespace Sys2Proof.Machine

/-! ## Numbers in bytes (12, opening: most significant byte first) -/

/-- The number that bytes spell, most significant byte first. -/
def natOfBytes (bs : List Byte) : Nat := bs.foldl (fun n b => n * 256 + b.toNat) 0

/-- The low `k` bytes of a number, most significant first. -/
def bytesOfNat : Nat → Nat → List Byte
  | 0, _ => []
  | k + 1, n => bytesOfNat k (n / 256) ++ [BitVec.ofNat 8 n]

/-- The number in the `k` bytes from byte `i` on. -/
def numAt (bs : List Byte) (i k : Nat) : Nat := natOfBytes ((bs.drop i).take k)

/-- One byte carrying a value of range up to 255. -/
def byteOf (n : Nat) : Byte := BitVec.ofNat 8 n

/-- A yes/no field (12.4). -/
def boolByte (b : Bool) : Byte := if b then 1 else 0

/-- An optional landing or station: 255 when absent (12, opening). -/
def optByte (o : Option Nat) : Byte := byteOf (o.getD 255)

/-- A car: 0 when absent (12, opening). -/
def carByte (o : Option Nat) : Byte := byteOf (o.getD 0)

/-- Membership of a set carried as bits, member 0 in the most significant bit (12.1). -/
def memSet {w : Nat} (s : BitVec w) (i : Nat) : Bool := s.getMsbD i

/-- The 16 bytes of a landing set (12.1). -/
def landingSetBytes (s : LandingSet) : List Byte := bytesOfNat 16 s.toNat

/-- The 2 bytes of a zone set (12.1). -/
def zoneSetBytes (s : ZoneSet) : List Byte := bytesOfNat 2 s.toNat

/-- The landing set in the 16 bytes from byte `i` on (12.1). -/
def landingSetAt (bs : List Byte) (i : Nat) : LandingSet := BitVec.ofNat 128 (numAt bs i 16)

/-- The zone set in the 2 bytes from byte `i` on (12.1). -/
def zoneSetAt (bs : List Byte) (i : Nat) : ZoneSet := BitVec.ofNat 16 (numAt bs i 2)

/-- The event-kind set in the 3 bytes from byte `i` on (12.1). -/
def eventSetAt (bs : List Byte) (i : Nat) : EventSet := BitVec.ofNat 24 (numAt bs i 3)

/-- A badge key in any record but the badge entry's own layout: facility, then card (12.4). -/
def keyBytes (k : BadgeKey) : List Byte := bytesOfNat 2 k.facility ++ bytesOfNat 4 k.card

/-- The badge key in the 6 bytes from byte `i` on (12.4). -/
def keyAt (bs : List Byte) (i : Nat) : BadgeKey := ⟨numAt bs i 2, numAt bs (i + 2) 4⟩

/-! ## Code numbers -/

/-- Kind numbers of the frames the part handles itself (12.1). -/
def kindPoll : Nat := 1
def kindNil : Nat := 2
def kindPresent : Nat := 3
def kindAnswer : Nat := 4
def kindCall : Nat := 16
def kindAssign : Nat := 17
def kindDecline : Nat := 18
def kindCancel : Nat := 19
def kindMreq : Nat := 32
def kindMrsp : Nat := 33
def kindNotice : Nat := 34
def kindReport : Nat := 35

/-- The handled kinds, which never cross between the ports (09, section 9.4; 12.1). -/
def handledKinds : List Nat :=
  [kindPoll, kindNil, kindPresent, kindAnswer, kindCall, kindAssign, kindDecline, kindCancel,
    kindMreq, kindMrsp, kindNotice, kindReport]

/-- Verdict codes of ANSWER and REPORT (12.2). -/
def Verdict.code : Verdict → Nat
  | .admitted => 1 | .repeated => 2 | .denied => 3 | .retry => 4

/-- Reason codes (12.2). -/
def Reason.code : Reason → Nat
  | .unconfigured => 1 | .serviceSuspended => 2 | .terminalHeld => 3 | .terminalLatched => 4
  | .unreadable => 5 | .foreignFacility => 6 | .unknownBadge => 7 | .suspended => 8
  | .lost => 9 | .tenantSuspended => 10 | .notYetValid => 11 | .expired => 12
  | .noTripsLeft => 13 | .noDefault => 14 | .badDestination => 15 | .sameLanding => 16
  | .serviceOnly => 17 | .zoneLocked => 18 | .clockUnset => 19 | .notPermitted => 20
  | .otherBank => 21 | .noRoute => 22 | .noService => 23 | .groupBusy => 24
  | .noAnswer => 25 | .superseded => 26

/-- Response codes (12.4). -/
def Code.number : Code → Nat
  | .ok => 0 | .okClamped => 1 | .notFound => 2 | .bucketFull => 3 | .badTable => 4
  | .badIndex => 5 | .badField => 6 | .notAuthorized => 7 | .busy => 8 | .locked => 9
  | .stillActive => 10

/-- Event kind numbers (10, section 10.5). -/
def EventKind.number : EventKind → Nat
  | .terminalHeld => 0 | .terminalLatched => 1 | .terminalAbsent => 2 | .terminalPresent => 3
  | .groupSilent => 4 | .groupRestored => 5 | .alarmRaised => 6 | .alarmCleared => 7
  | .recallEntered => 8 | .recallLeft => 9 | .lostBadgeSeen => 10 | .portOverrun => 11
  | .linkErrors => 12 | .relayLost => 13 | .cancelLost => 14 | .reportsLost => 15
  | .saveDone => 16 | .saveFailed => 17 | .authFailed => 18 | .clockUnset => 19

/-- Leg markers in a CALL (12.3). -/
def LegMarker.code : LegMarker → Nat
  | .oneOfOne => 1 | .oneOfTwo => 2 | .twoOfTwo => 3

/-- Trip states (12.4). -/
def TripState.code : TripState → Nat
  | .queued => 0 | .called => 1 | .assigned => 2 | .awaitingTransfer => 3

/-- Group service states (12.4). -/
def GroupService.code : GroupService → Nat
  | .inService => 0 | .silent => 1 | .held => 2

/-- Terminal service states (12.4). -/
def TerminalService.code : TerminalService → Nat
  | .idle => 0 | .awaiting _ => 1 | .held _ => 2 | .latched => 3

/-- The pending trip: present in AWAITING alone (R59). -/
def TerminalService.pendingTrip : TerminalService → Option Nat
  | .awaiting n => some n
  | .idle | .held _ | .latched => none

/-- Accepted levels (12.4). -/
def levelCode : Option Level → Nat
  | some .low => 0 | some .high => 1 | none => 255

/-- Line states (12.4). -/
def LineStatus.code : LineStatus → Nat
  | .normal => 0 | .active => 1 | .latched => 2

/-- Alarm actions (12.4). -/
def AlarmAction.code : AlarmAction → Nat
  | .notify => 0 | .lockZones => 1 | .recall => 2

/-- Building modes (12.4). -/
def BuildingMode.code : BuildingMode → Nat
  | .normal => 0 | .recall => 1

/-- Site code states (12.4). -/
def SiteState.code : SiteState → Nat
  | .blank => 0 | .set => 1 | .locked => 2

/-- Classes of a badge entry (12.4). -/
def CredClass.code : CredClass → Nat
  | .staff => 0 | .visitor => 1 | .service => 2 | .override => 3

/-- The class that two bits code (12.4). -/
def credClassOf : Nat → CredClass
  | 0 => .staff | 1 => .visitor | 2 => .service | _ => .override

/-- States of a badge entry as returned (12.4). -/
def EntryState.code : EntryState → Nat
  | .active => 0 | .suspended => 1 | .lost => 2

/-- The state that two bits code: 2 and 3 are LOST (12.4, R193). -/
def entryStateOf : Nat → EntryState
  | 0 => .active | 1 => .suspended | _ => .lost

/-- Bindings (12.4). -/
def Binding.code : Binding → Nat
  | .routed => 0
  | .fixed g => g

/-! ## The frame and its check (R162, R163, 12.1) -/

/-- One bit into the check register: the register's highest bit against the incoming bit, a shift
towards the high end, and the generator when they differ (R163). -/
def checkBit (r : BitVec 16) (b : Bool) : BitVec 16 :=
  if r.getMsbD 0 != b then (r <<< 1) ^^^ 4129#16 else r <<< 1

/-- One byte into the check register, most significant bit first (R163). -/
def checkByte (r : BitVec 16) (b : Byte) : BitVec 16 :=
  (List.range 8).foldl (fun r i => checkBit r (b.getMsbD i)) r

/-- The check of a run of bytes, from a register of all ones, not inverted (R163). -/
def checkOf (bs : List Byte) : BitVec 16 := bs.foldl checkByte 65535#16

/-- The bytes of a composed frame: header, payload and check (R164, 12.1). -/
def composeFrame (destination source kind : Nat) (payload : List Byte) : List Byte :=
  let covered := [byteOf destination, byteOf source, byteOf kind, byteOf payload.length] ++ payload
  covered ++ bytesOfNat 2 (checkOf covered).toNat

/-- The fields of a good frame (R162). -/
structure Frame where
  destination : Nat
  source : Nat
  kind : Nat
  payload : List Byte
  deriving DecidableEq, Repr

/-- Judge a reception: the good frame it holds, or none when a test of R162 fails. -/
def judge (r : Reception) : Option Frame :=
  let n := numAt r.bytes 3 1
  if r.stopBits = false then none
  else if r.bytes.length < 6 then none
  else if 56 < n then none
  else if r.bytes.length ≠ n + 6 then none
  else if (checkOf (r.bytes.take (n + 4))).toNat ≠ numAt r.bytes (n + 4) 2 then none
  else some ⟨numAt r.bytes 0 1, numAt r.bytes 1 1, numAt r.bytes 2 1, (r.bytes.drop 4).take n⟩

/-! ## The reader word (R69, R70) -/

/-- How many of the `k` bits from bit `i` on are ones. -/
def onesFrom (bits : ReaderBits) (i k : Nat) : Nat :=
  ((List.range k).filter (fun j => bits.getMsbD (i + j))).length

/-- SPLIT parity of an `n`-bit word: bits 0..h even, bits h+1..n-1 odd, h = (n - 2) / 2 (R69). -/
def splitParity (bits : ReaderBits) (n : Nat) : Bool :=
  let h := (n - 2) / 2
  onesFrom bits 0 (h + 1) % 2 = 0 && onesFrom bits (h + 1) (n - (h + 1)) % 2 = 1

/-- The number in `k` bits from bit `i` on, the first received most significant (R70). -/
def bitField (bits : ReaderBits) (i k : Nat) : Nat :=
  (List.range k).foldl (fun n j => 2 * n + (bits.getMsbD (i + j)).toNat) 0

/-- Decode a reader word of `n` bits by a format: the badge key, or none when UNREADABLE (R69, R70). -/
def decodeReader (f : Format) (n : Nat) (bits : ReaderBits) : Option BadgeKey :=
  if n ≠ f.length then none
  else if f.split && !splitParity bits n then none
  else some ⟨bitField bits f.facilityStart f.facilityLength,
    bitField bits f.cardStart f.cardLength⟩

/-! ## Payloads the part sends (12.2, 12.3) -/

/-- The payload of an ANSWER with the overrun mark `overrun` (12.2). -/
def answerPayload (a : Answer) (overrun : Bool) : List Byte :=
  [byteOf a.verdict.code, byteOf ((a.reason.map Reason.code).getD 0), optByte a.destination,
    carByte a.car, optByte a.transfer,
    byteOf ((if a.held then 128 else 0) + (if overrun then 64 else 0))]

/-- The payload of a CALL (12.3). -/
def callPayload (c : Call) : List Byte :=
  bytesOfNat 2 c.tag ++
    [byteOf c.origin, byteOf c.destination, boolByte c.needs, byteOf c.marker.code]

/-- The payload of a CANCEL (12.3). -/
def cancelPayload (c : Cancel) : List Byte := bytesOfNat 2 c.tag

/-- The payload of an MRSP (12.4). -/
def mrspPayload (r : Response) : List Byte :=
  [r.number, r.operation, byteOf r.code.number] ++ r.data

/-- The payload of a NOTICE (12.3). -/
def noticePayload (n : Notice) : List Byte := [byteOf n.kind.number, byteOf n.count]

/-- The payload of a REPORT (12.3); the three bits of the flags byte that the layout does not name are 0
(assumption log 41). -/
def reportPayload (r : Report) : List Byte :=
  let flags := (if r.key.isSome then 128 else 0) + (if r.destination.isSome then 64 else 0) +
    (if r.reason.isSome then 32 else 0) + (if r.legs.isSome then 16 else 0) +
    (if r.clockSet then 8 else 0)
  bytesOfNat 2 r.time.day ++ bytesOfNat 2 r.time.minute ++
    [byteOf r.time.second, byteOf r.terminal, byteOf flags] ++
    keyBytes (r.key.getD ⟨0, 0⟩) ++
    [r.request, optByte r.destination, byteOf r.verdict.code,
      byteOf ((r.reason.map Reason.code).getD 0), byteOf (r.legs.getD 0)]

/-! ## Record layouts (12.4) -/

/-- The mark of an empty or absent record in a READ response (12.4). -/
def absentMark : List Byte := [255]

/-- A badge entry as returned (12.4); an absent default landing is 255, as every landing field that may be
absent (12, opening). The value bytes of an absent tenant, end day and trips remaining have no stated value:
they are the free bytes that stand from counter `n` on (assumption log 10). The three bits of the last byte
that the layout does not name are 0 (assumption log 40). -/
def badgeBytes (e : BadgeEntry) (n : Nat) : List Byte :=
  keyBytes e.key ++
    [byteOf (e.cls.code * 64 + e.state.code), byteOf e.profile,
      (e.tenant.map byteOf).getD (Config.freeByte n)] ++
    bytesOfNat 2 e.startDay ++
    (e.endDay.map (bytesOfNat 2)).getD [Config.freeByte (n + 1), Config.freeByte (n + 2)] ++
    [(e.trips.map byteOf).getD (Config.freeByte (n + 3)), optByte e.defaultLanding,
      byteOf ((if e.tenant.isSome then 128 else 0) + (if e.endDay.isSome then 64 else 0) +
        (if e.trips.isSome then 32 else 0) + (if e.defaultLanding.isSome then 16 else 0) +
        (if e.needs then 8 else 0))]

/-- How many readings of the counter one returned badge entry uses (assumption log 10, 24). -/
def badgeFree : Nat := 4

/-- The badge entry a WRITE carries in the 16 bytes from byte `i` on (12.4); the three low bits of its last
byte are ignored (assumption log 40). -/
def badgeAt (bs : List Byte) (i : Nat) : BadgeEntry :=
  let sc := numAt bs (i + 6) 1
  let marks := BitVec.ofNat 8 (numAt bs (i + 15) 1)
  { key := keyAt bs i
    state := entryStateOf (sc % 4)
    cls := credClassOf (sc / 64)
    profile := numAt bs (i + 7) 1
    tenant := if memSet marks 0 then some (numAt bs (i + 8) 1) else none
    startDay := numAt bs (i + 9) 2
    endDay := if memSet marks 1 then some (numAt bs (i + 11) 2) else none
    trips := if memSet marks 2 then some (numAt bs (i + 13) 1) else none
    defaultLanding := if memSet marks 3 then some (numAt bs (i + 14) 1) else none
    needs := memSet marks 4 }

/-- A profile band (12.4). -/
def bandBytes (b : Band) : List Byte :=
  bytesOfNat 1 b.days.toNat ++ bytesOfNat 2 b.start ++ bytesOfNat 2 b.length ++
    landingSetBytes b.landings

/-- A tenant record: lease, then state (R46; assumption log 9). -/
def tenantBytes (t : Tenant) : List Byte := landingSetBytes t.lease ++ [boolByte t.suspended]

/-- A landing record (R3). -/
def landingBytes (l : Landing) : List Byte :=
  [byteOf l.zone, boolByte l.common, boolByte l.serviceOnly]

/-- The configuration fields of a group (R5). -/
def groupBytes (g : GroupConfig) : List Byte :=
  [optByte g.station] ++ landingSetBytes g.served ++ [byteOf g.limit, byteOf g.timeout]

/-- The three fields a terminal WRITE carries (R60). -/
def terminalBytes (c : TerminalConfig) : List Byte :=
  [byteOf c.origin, byteOf c.format, byteOf c.binding.code]

/-- The dynamic part of a terminal record, in the order of R61 (assumption log 9). -/
def terminalStateBytes (t : TerminalState) : List Byte :=
  [boolByte t.absent, byteOf t.misses, byteOf t.service.code] ++
    bytesOfNat 2 (t.service.pendingTrip.getD 0) ++
    [boolByte t.overrun, byteOf t.tally, byteOf t.holds]

/-- A Format Table entry (R68). -/
def formatBytes (f : Format) : List Byte :=
  [byteOf f.length, byteOf f.facilityStart, byteOf f.facilityLength, byteOf f.cardStart,
    byteOf f.cardLength, boolByte f.split]

/-- A Facility Range (12.4). -/
def facilityBytes (r : FacilityRange) : List Byte := bytesOfNat 2 r.base ++ bytesOfNat 3 r.count

/-- The configuration of an alarm line (R144, 12.4). -/
def lineBytes (c : LineConfig) : List Byte :=
  [boolByte c.activeLow, boolByte c.edge, byteOf c.debounce, boolByte c.mask,
    byteOf c.action.code] ++ zoneSetBytes c.zones

/-- A kind set: a count and that many kinds (12.1). -/
def kindSetBytes (ks : List Byte) : List Byte := byteOf ks.length :: ks

/-- The value of a Settings item, by its row in the table of R179 (12.4). -/
def settingBytes (s : Settings) : Nat → List Byte
  | 0 => [byteOf s.ownStation]
  | 1 => [byteOf s.headEnd]
  | 2 => [byteOf s.landingCount]
  | 3 => [byteOf s.epochWeekday]
  | 4 => bytesOfNat 2 s.nightStart ++ bytesOfNat 2 s.nightLength
  | 5 => [byteOf s.threshold]
  | 6 => [byteOf s.decayCode]
  | 7 => [byteOf s.latchLimit]
  | 8 => [byteOf s.holdIndex]
  | 9 => [boolByte s.extendedHold]
  | 10 => [byteOf s.repeatGuard]
  | 11 => bytesOfNat 2 s.transferWindow
  | 12 => [boolByte s.reporting]
  | 13 => bytesOfNat 3 s.enables.toNat
  | 14 => kindSetBytes s.gToT
  | 15 => kindSetBytes s.tToG
  | _ => []

/-- Whole seconds from `now` to a moment in ms, rounded up (R125). -/
def secondsLeft (now : Nat) (expiry : Option Nat) : Nat :=
  match expiry with
  | none => 0
  | some e => (e - now + 999) / 1000

/-- A trip record, its expiry given as the seconds remaining (R108, R125, 12.4). -/
def tripBytes (now : Nat) (t : Trip) : List Byte :=
  bytesOfNat 2 t.number ++ keyBytes t.key ++
    [byteOf t.terminal, byteOf t.origin, byteOf t.final, byteOf t.legs, optByte t.transfer,
      byteOf t.leg, byteOf t.group] ++
    bytesOfNat 2 t.tag ++ [carByte t.car, byteOf t.state.code] ++
    bytesOfNat 2 t.created.day ++ bytesOfNat 2 t.created.minute ++ [byteOf t.created.second] ++
    bytesOfNat 2 (secondsLeft now t.expiry)

end Sys2Proof.Machine
end

