-- ==== Sys2Proof/Machine/Flags.lean ====
section
/-! DEFINITION. The status flags of the part: the status and count of the twenty event kinds and the notices they queue (10_management_events_and_reports.md, section 10.5). -/

namespace Sys2Proof.Machine

/-- Status and count of a kind. -/
def State.event (s : State) (k : EventKind) : EventCell := s.events.get {} k.number

/-- The enable of a kind, taken from the Settings record (R181). -/
def State.enabled (s : State) (k : EventKind) : Bool := memSet s.tables.settings.enables k.number

/-- The cell of a kind after one more occurrence: status set, count up by one and staying at 255 (R181). -/
def EventCell.occurred (c : EventCell) : EventCell := ⟨true, min 255 (c.count + 1)⟩

/-- One occurrence of an event kind: its cell, and a notice when the status was clear and the kind is
enabled, dropped when the Notice FIFO is full (R181, R182). -/
def State.raise (s : State) (k : EventKind) : State :=
  let c := s.event k
  let queue := !c.raised && s.enabled k && decide (s.notices.length < Config.noticeRoom)
  { s with
    events := s.events.set {} k.number c.occurred
    notices := if queue then s.notices ++ [⟨k, c.occurred.count⟩] else s.notices }

/-- Clear status and count of every kind in a set (R183). -/
def clearKinds (set : EventSet) (events : Store EventCell) : Store EventCell :=
  events.filter (fun e => !memSet set e.1)

/-- The 3 bytes of the event-kind set of the kinds whose status is set (R180, 12.4). -/
def State.statusBytes (s : State) : List Byte :=
  bytesOfNat 3 ((List.range 20).foldl
    (fun n k => n + (if (s.events.get {} k).raised then 2 ^ (23 - k) else 0)) 0)

/-- The twenty counts, kind 0 first (R180, 12.4). -/
def State.countBytes (s : State) : List Byte :=
  (List.range 20).map (fun k => byteOf (s.events.get {} k).count)

end Sys2Proof.Machine
end

