-- ==== Sys2Proof/Machine/Ops.lean ====
section
/-! DEFINITION. The named operations over the state that the commands share: access to the tables, elapsed time, answers, trips, calls and tags, the Cancel List, the alarm lines and the building mode, recall entry, and the reset values. -/

namespace Sys2Proof.Machine

/-! ## Access to the tables -/

/-- The part works: it is not held in reset and not LOADING (R190, R194). -/
def State.operating (s : State) : Bool := !s.resetHeld && decide (s.partState ≠ .loading)

/-- The Settings record. -/
def State.settings (s : State) : Settings := s.tables.settings

/-- The bank of a name (R38). -/
def State.bank (s : State) : BankName → PolicyBank
  | .a => s.tables.bankA
  | .b => s.tables.bankB

/-- The bank that decisions use (R38). -/
def State.active (s : State) : PolicyBank := s.bank s.activeBank

/-- The other name (R40). -/
def BankName.other : BankName → BankName
  | .a => .b
  | .b => .a

/-- The bank that WRITE and ERASE act on (R39). -/
def State.standby (s : State) : PolicyBank := s.bank s.activeBank.other

/-- Replace the standby bank (R39). -/
def State.setStandby (s : State) (b : PolicyBank) : State :=
  match s.activeBank with
  | .a => { s with tables := { s.tables with bankB := b } }
  | .b => { s with tables := { s.tables with bankA := b } }

/-- Configuration of a terminal (R58). -/
def State.terminalConfig (s : State) (t : Nat) : TerminalConfig := s.tables.terminals.get {} t

/-- Dynamic part of a terminal (R59). -/
def State.terminal (s : State) (t : Nat) : TerminalState := s.terminals.get {} t

/-- Write the dynamic part of a terminal. -/
def State.setTerminal (s : State) (t : Nat) (v : TerminalState) : State :=
  { s with terminals := s.terminals.set {} t v }

/-- Configuration of a group (R5). -/
def State.groupConfig (s : State) (g : Nat) : GroupConfig := s.tables.groups.get {} g

/-- Service state, streak and calls of a group (R9, R126, R127). -/
def State.group (s : State) (g : Nat) : GroupState := s.groups.get {} g

/-- Write what the part keeps for a group. -/
def State.setGroup (s : State) (g : Nat) (v : GroupState) : State :=
  { s with groups := s.groups.set {} g v }

/-- Configuration of an alarm line (R144). -/
def State.lineConfig (s : State) (k : Nat) : LineConfig := s.tables.alarmLines.get {} k

/-- Write the configuration of an alarm line. -/
def State.setLineConfig (s : State) (k : Nat) (c : LineConfig) : State :=
  { s with tables := { s.tables with alarmLines := s.tables.alarmLines.set {} k c } }

/-- Dynamic state of an alarm line (R146). -/
def State.line (s : State) (k : Nat) : LineState := s.lines.get {} k

/-- Write the dynamic state of an alarm line. -/
def State.setLine (s : State) (k : Nat) (v : LineState) : State :=
  { s with lines := s.lines.set {} k v }

/-- Raw level of an alarm input; an unlisted input is HIGH (assumption log 6). -/
def State.input (s : State) (k : Nat) : Level := s.inputs.get .high k

/-- The group numbers (R5). -/
def groupNumbers : List Nat := [1, 2, 3, 4, 5, 6]

/-- The alarm line numbers (R144). -/
def lineNumbers : List Nat := [0, 1, 2, 3, 4, 5, 6, 7]

/-- The group whose entry holds a station (R132). -/
def State.groupOfStation (s : State) (station : Nat) : Option Nat :=
  groupNumbers.find? (fun g => decide ((s.groupConfig g).station = some station))

/-! ## Elapsed time (R51; assumption log 2) -/

/-- The moment `d` has come: elapsed time is at least `d`. -/
def State.reach (s : State) (d : Nat) : State := { s with now := max s.now d }

/-- A millisecond passes in which no command arrives; in full reset the timers do not count (R194;
assumption log 1). -/
def State.idle (s : State) : State := if s.resetHeld then s else { s with now := s.now + 1 }

/-- Debounce time of a code, in ms (R144). -/
def debounceTime : Nat → Nat
  | 0 => 0
  | 1 => 20
  | 2 => 80
  | _ => 320

/-- Decay interval of a code, in ms (R75, R80). -/
def decayTime : Nat → Nat
  | 0 => 5000
  | 1 => 10000
  | 2 => 20000
  | _ => 40000

/-- Hold time, in ms (R77). -/
def holdTime (c : Settings) : Nat := (c.holdIndex + 1) * 10000 * (if c.extendedHold then 2 else 1)

/-- The clock reading as a time stamp (R51). -/
def State.moment (s : State) : Moment := ⟨s.clock.day, s.clock.minute, s.clock.second⟩

/-! ## Credentials (R20, R21) -/

/-- The bucket of a key (R20). -/
def bucketOf (k : BadgeKey) : Nat := (k.card + 5 * (k.card / 4096) + 3 * k.facility) % 4096

/-- The way indexes of a bucket (R18). -/
def waysOf (b : Nat) : List Nat := [4 * b, 4 * b + 1, 4 * b + 2, 4 * b + 3]

/-- The entry in a way (R18). -/
def State.way (s : State) (w : Nat) : Option BadgeEntry := s.tables.credentials.get none w

/-- Write a way. -/
def State.setWay (s : State) (w : Nat) (e : Option BadgeEntry) : State :=
  { s with tables := { s.tables with credentials := s.tables.credentials.set none w e } }

/-- Does the way hold the key? -/
def State.wayHolds (s : State) (k : BadgeKey) (w : Nat) : Bool :=
  match s.way w with
  | some e => decide (e.key = k)
  | none => false

/-- Look a key up: the way that holds it (R21). -/
def State.lookupWay (s : State) (k : BadgeKey) : Option Nat :=
  (waysOf (bucketOf k)).find? (s.wayHolds k)

/-- Look a key up: its entry (R21). -/
def State.lookup (s : State) (k : BadgeKey) : Option BadgeEntry :=
  (s.lookupWay k).bind s.way

/-- The visitor count-down of a key at an assignment (R32). -/
def State.countDown (s : State) (k : BadgeKey) : State :=
  match s.lookupWay k with
  | none => s
  | some w =>
    match s.way w with
    | none => s
    | some e =>
      if e.cls = .visitor then s.setWay w (some { e with trips := e.trips.map (· - 1) }) else s

/-! ## Trips (R107) -/

/-- The trip record of a key (R107: at most one). -/
def State.tripOfKey (s : State) (k : BadgeKey) : Option Trip :=
  s.trips.find? (fun t => decide (t.key = k))

/-- The trip record of a number (R109). -/
def State.tripOf (s : State) (n : Nat) : Option Trip :=
  s.trips.find? (fun t => decide (t.number = n))

/-- Remove the record of a number; the others keep their order (R107). -/
def State.removeTrip (s : State) (n : Nat) : State :=
  { s with trips := s.trips.filter (fun t => t.number ≠ n) }

/-- Change the record of a number in its place (R102, R107). -/
def State.updateTrip (s : State) (n : Nat) (f : Trip → Trip) : State :=
  { s with trips := s.trips.map (fun t => if t.number = n then f t else t) }

/-- Is the record ASSIGNED or AWAITING_TRANSFER? -/
def Trip.settled (t : Trip) : Bool :=
  decide (t.state = .assigned) || decide (t.state = .awaitingTransfer)

/-- Drop a key's AWAITING_TRANSFER record, silently (R29). -/
def State.dropPass (s : State) (k : BadgeKey) : State :=
  let waits := fun t : Trip => decide (t.key = k) && decide (t.state = .awaitingTransfer)
  { s with trips := s.trips.filter (fun t => !waits t) }

/-- The first number, counting on from `n` and from `top` to 1, that is not held; `fuel` numbers are
tried (R109, R128). -/
def firstFree (held : Nat → Bool) (top : Nat) : Nat → Nat → Nat
  | 0, n => n
  | fuel + 1, n => if held n then firstFree held top fuel (if top ≤ n then 1 else n + 1) else n

/-- The number that follows `n`, `top` being followed by 1 (R109, R128). -/
def following (top n : Nat) : Nat := if top ≤ n then 1 else n + 1

/-- Is a trip number held (R109)? -/
def State.tripHeld (s : State) (n : Nat) : Bool := s.trips.any (fun t => decide (t.number = n))

/-- The trip number a new record takes (R109). -/
def State.nextTrip (s : State) : Nat :=
  firstFree s.tripHeld Config.lastTripValue Config.lastTripValue
    (following Config.lastTripValue s.lastTrip)

/-- Is a tag held: by a queued call, an outstanding call or a settled trip (R128)? -/
def State.tagHeld (s : State) (tag : Nat) : Bool :=
  s.trips.any (fun t => t.settled && decide (t.tag = tag)) ||
    groupNumbers.any (fun g =>
      (s.group g).queue.any (fun c => decide (c.tag = tag)) ||
        (s.group g).outstanding.any (fun o => decide (o.call.tag = tag)))

/-- The tag a new call takes (R128). -/
def State.nextTag (s : State) : Nat :=
  firstFree s.tagHeld Config.lastTagValue Config.lastTagValue
    (following Config.lastTagValue s.lastTag)

/-! ## Answers (R59, R103, R105) -/

/-- Place an answer in the answer FIFO. An ADMIT answer takes its terminal's hold count to 0 (R78). -/
def State.placeAnswer (s : State) (a : Answer) : State :=
  let s1 := { s with answers := s.answers ++ [a] }
  if a.verdict = .admitted then
    s1.setTerminal a.terminal { s1.terminal a.terminal with holds := 0 }
  else s1

/-- Has the terminal an answer waiting (R72)? -/
def State.answerWaiting (s : State) (t : Nat) : Bool :=
  s.answers.any (fun a => decide (a.terminal = t))

/-- The answer that ends a trip's current leg for the terminal awaiting it: the trip's final landing as
destination, the held mark clear (R105). -/
def Trip.answer (t : Trip) (v : Verdict) (r : Option Reason) (car transfer : Option Nat) : Answer :=
  ⟨t.terminal, v, r, some t.final, car, transfer, false⟩

/-- Answer the terminal that awaits a trip and set it IDLE (R59, R105); nothing when none awaits it
(assumption log 25). -/
def State.endAwait (s : State) (t : Trip) (a : Answer) : State :=
  if (s.terminal t.terminal).service = .awaiting t.number then
    (s.setTerminal t.terminal { s.terminal t.terminal with service := .idle }).placeAnswer a
  else s

/-- End a QUEUED or CALLED trip without an assignment: remove its record and answer its terminal RETRY
(R121). -/
def State.failTrip (s : State) (n : Nat) (r : Reason) : State :=
  match s.tripOf n with
  | none => s
  | some t => (s.removeTrip n).endAwait t (t.answer .retry (some r) none none)

/-! ## Calls and the Cancel List -/

/-- Place a group and tag on the Cancel List (R139). -/
def State.placeCancel (s : State) (c : Cancel) : State :=
  if c ∈ s.cancels then s
  else if s.cancels.length < Config.cancelRoom then { s with cancels := s.cancels ++ [c] }
  else s.raise .cancelLost

/-- The outstanding call of a tag in a group (R127). -/
def State.outstandingOf (s : State) (g tag : Nat) : Option Outstanding :=
  (s.group g).outstanding.find? (fun o => decide (o.call.tag = tag))

/-- Take a tag's call out of a group's Outstanding Call Table (R127). -/
def State.removeOutstanding (s : State) (g tag : Nat) : State :=
  s.setGroup g { s.group g with
    outstanding := (s.group g).outstanding.filter (fun o => o.call.tag ≠ tag) }

/-- Take a trip's call out of a group's Call Queue (R141). -/
def State.removeQueued (s : State) (g trip : Nat) : State :=
  s.setGroup g { s.group g with queue := (s.group g).queue.filter (fun c => c.trip ≠ trip) }

/-- Put a call at the tail of a group's Call Queue (R126). -/
def State.queueCall (s : State) (g : Nat) (c : Call) : State :=
  s.setGroup g { s.group g with queue := (s.group g).queue ++ [c] }

/-- Withdraw every queued call of a group, oldest first: the calls leave without a frame, their trips are
removed and their terminals answered RETRY NO_SERVICE (R11, R137, R141). -/
def State.withdrawQueue (s : State) (g : Nat) : State :=
  (s.group g).queue.foldl (fun s c => s.failTrip c.trip .noService)
    (s.setGroup g { s.group g with queue := [] })

/-- A sign of life of a group: a SILENT group becomes IN_SERVICE with streak 0 (R138). -/
def State.signOfLife (s : State) (g : Nat) : State :=
  if (s.group g).service = .silent then
    (s.setGroup g { s.group g with service := .inService, streak := 0 }).raise .groupRestored
  else s

/-- The sign of life of the group, if any, that a frame's source station is (R138, R165). -/
def State.signOfLifeFrom (s : State) (station : Nat) : State :=
  match s.groupOfStation station with
  | none => s
  | some g => s.signOfLife g

/-! ## Alarm lines and the building mode -/

/-- The level at which a line is active (08, section 8.3). -/
def LineConfig.activeLevel (c : LineConfig) : Level := if c.activeLow then .low else .high

/-- Is a line active: is its accepted level the level its polarity names? -/
def lineActive (c : LineConfig) (l : LineState) : Bool := decide (l.accepted = some c.activeLevel)

/-- Is a line in force (R152)? -/
def lineInForce (c : LineConfig) (l : LineState) : Bool :=
  decide (l.status ≠ .normal) && !c.mask

/-- Raise an alarm event for an unmasked line (R152). -/
def State.raiseLine (s : State) (c : LineConfig) (k : EventKind) : State :=
  if c.mask then s else s.raise k

/-- Line state after a change of activeness from `was` to `is_` (R148, R149). -/
def followStatus (edge was is_ : Bool) (st : LineStatus) : LineStatus :=
  if !was && is_ then
    match edge, st with
    | false, _ => .active
    | true, _ => .latched
  else if was && !is_ && !edge then .normal
  else st

/-- A line's activeness was `was` and is now read from its state: its line state follows, with
ALARM_RAISED at the entry to ACTIVE or LATCHED and ALARM_CLEARED at the return to NORMAL (R148, R149,
R152). -/
def State.followActive (s : State) (k : Nat) (was : Bool) : State :=
  let c := s.lineConfig k
  let l := s.line k
  let st := followStatus c.edge was (lineActive c l) l.status
  let s1 := s.setLine k { l with status := st }
  if l.status = .normal && decide (st ≠ .normal) then s1.raiseLine c .alarmRaised
  else if decide (l.status ≠ .normal) && decide (st = .normal) then s1.raiseLine c .alarmCleared
  else s1

/-- The zone lock set, formed anew: the management lock set and the zone sets of the lines in force with
action LOCK_ZONES (R154). -/
def State.zoneLocks (s : State) : ZoneSet :=
  lineNumbers.foldl (fun z k =>
    if lineInForce (s.lineConfig k) (s.line k) && decide ((s.lineConfig k).action = .lockZones) then
      z ||| (s.lineConfig k).zones else z) s.lockSet

/-- The building mode that the recall flag and the lines in force form (R155). -/
def State.formedMode (s : State) : BuildingMode :=
  if s.recallFlag || lineNumbers.any (fun k =>
      lineInForce (s.lineConfig k) (s.line k) && decide ((s.lineConfig k).action = .recall)) then
    .recall else .normal

/-- Set every AWAITING terminal IDLE (R156). -/
def TerminalState.released (t : TerminalState) : TerminalState :=
  match t.service with
  | .awaiting _ => { t with service := .idle }
  | .idle | .held _ | .latched => t

/-- A group without calls (R142). -/
def GroupState.cleared (g : GroupState) : GroupState := { g with queue := [], outstanding := [] }

/-- Recall entry: every call, trip and Cancel List entry is discarded, each AWAITING terminal is answered
DENY SERVICE_SUSPENDED in the order of the Trip List and set IDLE, and RECALL_ENTERED is raised (R142,
R156). -/
def State.recallEntry (s : State) : State :=
  let s1 := { s with
    groups := s.groups.mapValues {} GroupState.cleared
    cancels := []
    trips := [] }
  let s2 := s.trips.foldl
    (fun s t => s.endAwait t (t.answer .denied (some .serviceSuspended) none none)) s1
  { s2 with terminals := s2.terminals.mapValues {} TerminalState.released }.raise .recallEntered

/-- Form the building mode anew and act on a change of it (R155). -/
def State.formMode (s : State) : State :=
  if s.formedMode = s.mode then s
  else match s.formedMode with
    | .recall => { s with mode := .recall }.recallEntry
    | .normal => { s with mode := .normal }.raise .recallLeft

/-- A level becomes a line's accepted level, its timer stops, and the line state, the zone locks and the
building mode follow (R146 to R149, R155), the line's event before the mode's (DEDUCED, unsafe: assumption
log 43). -/
def State.acceptLevel (s : State) (k : Nat) (v : Level) : State :=
  let was := lineActive (s.lineConfig k) (s.line k)
  ((s.setLine k { s.line k with accepted := some v, timer := none }).followActive k was).formMode

/-- Start a line's debounce timer with the debounce time as it stands; with debounce code 0 no timer runs
and the raw level is accepted at once (R146, R147). -/
def State.startDebounce (s : State) (k : Nat) : State :=
  if debounceTime (s.lineConfig k).debounce = 0 then s.acceptLevel k (s.input k)
  else s.setLine k { s.line k with
    timer := some (s.now + debounceTime (s.lineConfig k).debounce) }

/-! ## Reset (R192) -/

/-- The site code record after a reset: SET becomes LOCKED (R178). -/
def SiteCode.atReset (c : SiteCode) : SiteCode :=
  match c.state with
  | .set => { c with state := .locked }
  | .blank | .locked => c

/-- End a save where it stands: with a save in progress the image is INVALID (R189). -/
def State.endSave (s : State) : State :=
  match s.saving with
  | none => s
  | some _ => { s with saving := none, image := none }

/-- The values that every reset, full or RESTART, gives, LOADING having begun (R190, R192). The Week Clock,
the raw inputs, the image and the tables in RAM are left as they are; LOADING_END gives the tables their
contents. -/
def State.resetValues (s : State) : State :=
  { s.endSave with
    partState := .loading
    restart := .none
    activeBank := .a
    terminals := []
    roundCount := 0
    roundPosition := 0
    exchange := none
    tReceiver := .sync
    gReceiver := .sync
    tLine := none
    gLine := none
    answers := []
    toTerminals := []
    toNetwork := []
    lastServed := 6
    trips := []
    lastTrip := 0
    groups := []
    lastTag := 0
    cancels := []
    lines := []
    lockSet := 0
    recallFlag := false
    mode := .normal
    requests := []
    responses := []
    siteCode := s.siteCode.atReset
    events := []
    notices := []
    reports := [] }

end Sys2Proof.Machine
end

