-- ==== Sys2Proof/Machine/AlarmLines.lean ====
section
/-! DEFINITION. The alarm inputs: raw changes and debounce (08_alarm_lines_and_building_modes.md, section 8.2). -/

namespace Sys2Proof.Machine

/-- The Alarm Line Unit sees a change of a raw input, the new level already standing at the pin: the
debounce timer starts, starts afresh or stops, or the change is accepted at once (R146, R147). -/
def State.watchInput (s : State) (k : Nat) (v : Level) : State :=
  if (s.line k).accepted = some v then s.setLine k { s.line k with timer := none }
  else s.startDebounce k

/-- ALARM_INPUT_CHANGE: the raw input of a line changes to a level. During LOADING and in reset the inputs
are not watched (R146, R190). -/
def execAlarmInputChange (line : Nat) (level : Level) (s : State) :
    Host.Outcome State Fault Refusal :=
  .next (
    if 7 < line || decide (s.input line = level) then s
    else
      let s1 := { s with inputs := s.inputs.set .high line level }
      if s.operating then s1.watchInput line level else s1)

/-- DEBOUNCE_EXPIRY: a line's debounce timer expires and the level the input then holds becomes the
accepted level (R146, R147). -/
def execDebounceExpiry (line : Nat) (s : State) : Host.Outcome State Fault Refusal :=
  .next (
    match (s.line line).timer with
    | none => s
    | some d => if s.operating then (s.reach d).acceptLevel line (s.input line) else s)

end Sys2Proof.Machine
end

