-- ==== Sys2Proof/Machine/Routing.lean ====
section
/-! DEFINITION. The Route Selector (01_building_map_and_lift_groups.md, section 1.4). -/

namespace Sys2Proof.Machine

/-- Does a group serve a landing: station present, landing in the served set and below the landing count
(01, section 1.4; R2, R5)? -/
def State.serves (s : State) (g l : Nat) : Bool :=
  (s.groupConfig g).station.isSome && memSet (s.groupConfig g).served l &&
    decide (l < s.settings.landingCount)

/-- Is a group IN_SERVICE (R9)? -/
def State.inService (s : State) (g : Nat) : Bool := decide ((s.group g).service = .inService)

/-- The lowest-numbered group that serves both landings and is IN_SERVICE, or, with `any`, in whatever
service state (R14, R15). -/
def State.oneLeg (s : State) (any : Bool) (o d : Nat) : Option Nat :=
  groupNumbers.find? (fun g => (any || s.inService g) && s.serves g o && s.serves g d)

/-- The leg-1 group and transfer landing that one slot of the Sky Lobby List gives (R14). -/
def State.viaSlot (s : State) (any : Bool) (o d slot : Nat) : Option (Nat × Nat) :=
  match s.tables.skyLobbies.get none slot with
  | none => none
  | some l =>
    if s.settings.landingCount ≤ l || decide (l = o) || decide (l = d) then none
    else match s.oneLeg any o l, s.oneLeg any l d with
      | some g, some _ => some (g, l)
      | _, _ => none

/-- The first two-leg route in slot order: leg-1 group and transfer landing (R14). -/
def State.twoLegs (s : State) (any : Bool) (o d : Nat) : Option (Nat × Nat) :=
  [0, 1, 2, 3].findSome? (s.viaSlot any o d)

/-- What the Route Selector returns (R98). -/
inductive Route where
  | oneLeg (group : Nat)
  | twoLegs (group transfer : Nat)
  | noService
  | noRoute
  | otherBank
  deriving DecidableEq, Repr

/-- A ROUTED terminal's first presentation: the search over available groups, then the search over every
configured group, which tells "no service" from "no route" (R14, R15). -/
def State.routeNew (s : State) (o d : Nat) : Route :=
  match s.oneLeg false o d, s.twoLegs false o d with
  | some g, _ => .oneLeg g
  | none, some (g, l) => .twoLegs g l
  | none, none =>
    if (s.oneLeg true o d).isSome || (s.twoLegs true o d).isSome then .noService else .noRoute

/-- A continuation at a ROUTED terminal: a one-leg search alone (R16). -/
def State.routeOn (s : State) (o d : Nat) : Route :=
  match s.oneLeg false o d with
  | some g => .oneLeg g
  | none => if (s.oneLeg true o d).isSome then .noService else .noRoute

/-- A terminal with FIXED binding: the bound group alone is tested (R17). -/
def State.routeFixed (s : State) (g o d : Nat) : Route :=
  if !(s.serves g o && s.serves g d) then .otherBank
  else if !s.inService g then .noService
  else .oneLeg g

/-- The route of a decision, by the terminal's binding (R98). -/
def State.route (s : State) (b : Binding) (continuation : Bool) (o d : Nat) : Route :=
  match b with
  | .fixed g => s.routeFixed g o d
  | .routed => if continuation then s.routeOn o d else s.routeNew o d

end Sys2Proof.Machine
end

