-- ==== Sys2Proof/Machine/Decision.lean ====
section
/-! DEFINITION. The admission decision (05_the_admission_decision.md), with the band-in-force test (03), the Denial Monitor (04, section 4.6), supersession and eviction (06). -/

namespace Sys2Proof.Machine

/-! ## The presentation (R69, R88, 12.2) -/

/-- What a PRESENT frame of 10 bytes carries, and the terminal it came from. -/
structure Presentation where
  terminal : Nat
  count : Nat
  bits : ReaderBits
  request : Byte
  deriving DecidableEq, Repr

/-- The presentation in a PRESENT payload (12.2). -/
def presentationOf (terminal : Nat) (payload : List Byte) : Presentation :=
  ⟨terminal, numAt payload 0 1, BitVec.ofNat 64 (numAt payload 1 8),
    byteOf (numAt payload 9 1)⟩

/-- A destination request resolved (R88): to a landing, left unresolved, or a value the layout does not
define. -/
inductive Wish where
  | landing (l : Nat)
  | unresolved
  | undefined
  deriving DecidableEq, Repr

/-- The landing, when resolved. -/
def Wish.landing? : Wish → Option Nat
  | .landing l => some l
  | .unresolved | .undefined => none

/-! ## Days, bands and the night period (R52 to R57) -/

/-- Day of the week of a day number, 0 for MON (R53). -/
def State.weekday (s : State) (d : Nat) : Nat := (d + s.settings.epochWeekday) % 7

/-- Is a day in the active Holiday List (R47, R54)? -/
def State.holiday (s : State) (d : Nat) : Bool :=
  s.active.holidays.any (fun e => decide (e.2 = some d))

/-- Day type of a day: its place in a day-type set, 0 to 6 from MON, 7 for HOLIDAY (R54). -/
def State.dayType (s : State) (d : Nat) : Nat := if s.holiday d then 7 else s.weekday d

/-- Is a band in force at the clock's day and minute (R55)? -/
def State.bandInForce (s : State) (b : Band) : Bool :=
  let d := s.clock.day
  let m := s.clock.minute
  s.clock.isSet &&
    ((memSet b.days (s.dayType d) && decide (b.start ≤ m) && decide (m < b.start + b.length)) ||
      (decide (1440 < b.start + b.length) && decide (d ≠ 0) && memSet b.days (s.dayType (d - 1)) &&
        decide (m < b.start + b.length - 1440)))

/-- The union of the landing sets of a profile's bands in force (R45). -/
def State.bandLandings (s : State) (profile : Nat) : LandingSet :=
  [0, 1, 2, 3].foldl (fun set slot =>
    match s.active.profiles.get none (4 * profile + slot) with
    | none => set
    | some b => if s.bandInForce b then set ||| b.landings else set) 0

/-- Is the night period in force (R57)? -/
def State.night (s : State) : Bool :=
  let st := s.settings.nightStart
  let l := s.settings.nightLength
  let m := s.clock.minute
  s.clock.isSet && decide (l ≠ 0) &&
    ((decide (st ≤ m) && decide (m < st + l)) ||
      (decide (1440 < st + l) && decide (m < st + l - 1440)))

/-! ## The grant (R96) -/

/-- A landing record of the active bank (R3). -/
def State.landing (s : State) (l : Nat) : Landing := s.active.landings.get {} l

/-- Is a landing common and below the landing count (R2, R3)? -/
def State.common (s : State) (l : Nat) : Bool :=
  decide (l < s.settings.landingCount) && (s.landing l).common

/-- Is a landing in an entry's grant (R96)? -/
def State.inGrant (s : State) (e : BadgeEntry) (l : Nat) : Bool :=
  decide (l < s.settings.landingCount) &&
    match e.cls with
    | .override => true
    | .service => memSet (s.bandLandings e.profile) l || (s.landing l).common
    | .staff | .visitor =>
      match e.tenant with
      | none => memSet (s.bandLandings e.profile) l || (s.landing l).common
      | some n =>
        (memSet (s.bandLandings e.profile) l && memSet (s.active.tenants.get {} n).lease l) ||
          (s.landing l).common

/-! ## Stages 2 to 8 -/

/-- Is a facility code accepted (R71)? -/
def State.facilityAccepted (s : State) (f : Nat) : Bool :=
  let slots := [0, 1, 2, 3].filterMap (fun k => s.tables.facilities.get none k)
  slots.isEmpty || slots.any (fun r => decide (r.base ≤ f) && decide (f < r.base + r.count))

/-- Is a record a pass waiting at a landing (R88, R89)? -/
def Trip.waitsAt (t : Trip) (l : Nat) : Bool :=
  decide (t.state = .awaitingTransfer) && decide (t.transfer = some l)

/-- The entry's default landing as a resolved request (R88). -/
def BadgeEntry.defaultWish (e : BadgeEntry) : Wish :=
  match e.defaultLanding with
  | some l => .landing l
  | none => .unresolved

/-- Resolve the destination request (R88). -/
def resolve (origin : Nat) (e : BadgeEntry) (trip : Option Trip) (request : Byte) : Wish :=
  if request.toNat < 128 then .landing request.toNat
  else if request.toNat = 128 then e.defaultWish
  else if request.toNat = 129 then
    match trip with
    | some t => if t.waitsAt origin then .landing t.final else e.defaultWish
    | none => e.defaultWish
  else .undefined

/-- The pass that the decision continues, if it is a continuation (R89). -/
def continued (origin : Nat) (trip : Option Trip) (w : Wish) : Option Trip :=
  trip.filter (fun t => t.waitsAt origin && decide (w = .landing t.final))

/-- Stage 4: whether the badge may be used (R90 to R92). -/
def State.stage4 (s : State) (e : BadgeEntry) (continuation : Bool) : Option Reason :=
  if e.state = .suspended then some .suspended
  else if e.state = .lost then some .lost
  else if e.tenant.any (fun n => (s.active.tenants.get {} n).suspended) then some .tenantSuspended
  else if s.clock.isSet && decide (s.clock.day < e.startDay) then some .notYetValid
  else if s.clock.isSet && e.endDay.any (fun d => decide (d < s.clock.day)) then some .expired
  else if decide (e.cls = .visitor) && !continuation && decide (e.trips.getD 0 = 0) then
    some .noTripsLeft
  else none

/-- Stages 5 to 8 for a resolved landing: in use and not the origin (R93), service-only (R94), zone lock
(R95), grant (R97). -/
def State.stages5to8 (s : State) (e : BadgeEntry) (origin : Nat) (continuation : Bool) (l : Nat) :
    Option Reason :=
  if s.settings.landingCount ≤ l then some .badDestination
  else if l = origin then some .sameLanding
  else if (s.landing l).serviceOnly && (decide (e.cls = .staff) || decide (e.cls = .visitor)) then
    some .serviceOnly
  else if memSet s.zoneLocks (s.landing l).zone && decide (e.cls ≠ .override) then
    some .zoneLocked
  else if continuation || s.inGrant e l then none
  else if !s.clock.isSet && !s.common l then some .clockUnset
  else some .notPermitted

/-! ## The decision -/

/-- How a decision ends (R82): DENY, RETRY, REPEAT of a record, a new trip (its leg-1 group, its transfer
landing when it has two legs, the access needs of its call), or a pass carried on to its second leg. -/
inductive Ending where
  | deny (r : Reason)
  | retry (r : Reason)
  | repeated (t : Trip)
  | create (group : Nat) (transfer : Option Nat) (needs : Bool)
  | carry (t : Trip) (group : Nat) (needs : Bool)
  deriving DecidableEq, Repr

/-- A decision: the decoded key, the resolved destination, and the ending. -/
structure Decision where
  key : Option BadgeKey
  destination : Option Nat
  ending : Ending
  deriving DecidableEq, Repr

/-- Is a group's Call Queue full, not counting the call of the trip `own` (R100)? -/
def State.queueFull (s : State) (g : Nat) (own : Option Nat) : Bool :=
  decide (Config.queueRoom ≤ ((s.group g).queue.filter (fun c => some c.trip ≠ own)).length)

/-- Stage 10 for a decision that is not a continuation (R99 to R101). -/
def State.stage10New (s : State) (e : BadgeEntry) (existing : Option Trip) (l g : Nat)
    (transfer : Option Nat) : Ending :=
  match existing with
  | some t =>
    if t.final = l && decide (t.state ≠ .awaitingTransfer) then .repeated t
    else if s.queueFull g (some t.number) then .retry .groupBusy
    else .create g transfer e.needs
  | none => if s.queueFull g none then .retry .groupBusy else .create g transfer e.needs

/-- Stages 9 and 10 for a landing that has passed the stages before (R98 to R102). -/
def State.stages9to10 (s : State) (e : BadgeEntry) (c : TerminalConfig) (existing pass : Option Trip)
    (l : Nat) : Ending :=
  match s.route c.binding pass.isSome c.origin l with
  | .otherBank => .deny .otherBank
  | .noRoute => .deny .noRoute
  | .noService => .retry .noService
  | .oneLeg g =>
    match pass with
    | some t => if s.queueFull g (some t.number) then .retry .groupBusy else .carry t g e.needs
    | none => s.stage10New e existing l g none
  | .twoLegs g via => s.stage10New e existing l g (some via)

/-- Stages 4 to 10, the entry having been found (R87 to R102). -/
def State.decideEntry (s : State) (p : Presentation) (k : BadgeKey) (e : BadgeEntry) : Decision :=
  let c := s.terminalConfig p.terminal
  let existing := s.tripOfKey k
  let w := resolve c.origin e existing p.request
  let pass := continued c.origin existing w
  ⟨some k, w.landing?,
    match s.stage4 e pass.isSome with
    | some r => .deny r
    | none =>
      match w with
      | .unresolved => .deny .noDefault
      | .undefined => .deny .badDestination
      | .landing l =>
        match s.stages5to8 e c.origin pass.isSome l with
        | some r => .deny r
        | none => s.stages9to10 e c existing pass l⟩

/-- Stages 1 to 3, then the rest (R86, R87). -/
def State.decideWord (s : State) (p : Presentation) : Decision :=
  let format := s.tables.formats.get {} (s.terminalConfig p.terminal).format
  match decodeReader format p.count p.bits with
  | none => ⟨none, none, .deny .unreadable⟩
  | some k =>
    if !s.facilityAccepted k.facility then ⟨some k, none, .deny .foreignFacility⟩
    else match s.lookup k with
      | none => ⟨some k, none, .deny .unknownBadge⟩
      | some e => s.decideEntry p k e

/-- The decision of a presentation: stage 0, then the rest (R81 to R85). -/
def State.decision (s : State) (p : Presentation) : Decision :=
  if s.partState ≠ .running then ⟨none, none, .deny .unconfigured⟩
  else if s.mode = .recall then ⟨none, none, .deny .serviceSuspended⟩
  else match (s.terminal p.terminal).service with
    | .held _ => ⟨none, none, .deny .terminalHeld⟩
    | .latched => ⟨none, none, .deny .terminalLatched⟩
    | .idle | .awaiting _ => s.decideWord p

/-! ## The Denial Monitor (R74 to R77) -/

/-- Is a DENY of this reason a counted denial (R74)? -/
def Reason.counted : Reason → Bool
  | .foreignFacility | .unknownBadge | .suspended | .lost | .tenantSuspended | .notYetValid
  | .expired | .noTripsLeft | .serviceOnly | .zoneLocked | .notPermitted => true
  | .unconfigured | .serviceSuspended | .terminalHeld | .terminalLatched | .unreadable
  | .noDefault | .badDestination | .sameLanding | .clockUnset | .otherBank | .noRoute
  | .noService | .groupBusy | .noAnswer | .superseded => false

/-- The effective threshold (R76). -/
def State.effectiveThreshold (s : State) : Nat :=
  if s.night then (s.settings.threshold + 1) / 2 else s.settings.threshold

/-- The tally after one more counted denial (R74). -/
def TerminalState.raisedTally (t : TerminalState) : Nat := min 15 (t.tally + 1)

/-- Does a counted denial at the terminal bring a hold (R76)? -/
def State.bringsHold (s : State) (t : Nat) : Bool :=
  decide (s.effectiveThreshold ≤ (s.terminal t).raisedTally)

/-- A counted denial at a terminal: the tally rises and its decay timer starts afresh, or the terminal
enters a hold (R74 to R77). -/
def State.countDenial (s : State) (t : Nat) : State :=
  let v := s.terminal t
  if s.bringsHold t then
    let n := v.holds + 1
    if s.settings.latchLimit ≤ n then
      (s.setTerminal t { v with tally := 0, decay := none, holds := n, service := .latched }).raise
        .terminalLatched
    else
      (s.setTerminal t { v with
        tally := 0, decay := none, holds := n,
        service := .held (s.now + holdTime s.settings) }).raise .terminalHeld
  else
    s.setTerminal t { v with
      tally := v.raisedTally
      decay := some (s.now + decayTime s.settings.decayCode) }

/-! ## What a decision does -/

/-- The answer of a DENY: a counted denial is counted first, and the answer carries the held mark when it
brings a hold (R104). -/
def State.deny (s : State) (t : Nat) (r : Reason) (destination : Option Nat) : State :=
  if r.counted then
    (s.countDenial t).placeAnswer ⟨t, .denied, some r, destination, none, none, s.bringsHold t⟩
  else s.placeAnswer ⟨t, .denied, some r, destination, none, none, false⟩

/-- The answer of a REPEAT (R99). -/
def Trip.repeatAnswer (t : Trip) (terminal : Nat) : Answer :=
  ⟨terminal, .repeated, none, some t.final, if t.state = .assigned then t.car else none,
    if t.legs = 2 then t.transfer else none, false⟩

/-- Supersede a record: its call is withdrawn by the means its state allows, a terminal awaiting it is
answered DENY SUPERSEDED and set IDLE, and the record is removed (R119). -/
def State.supersede (s : State) (t : Trip) : State :=
  let a := t.answer .denied (some .superseded) none none
  match t.state with
  | .queued => ((s.removeQueued t.group t.number).endAwait t a).removeTrip t.number
  | .called =>
    (((s.removeOutstanding t.group t.tag).placeCancel ⟨t.group, t.tag⟩).endAwait t a).removeTrip
      t.number
  | .assigned | .awaitingTransfer => (s.placeCancel ⟨t.group, t.tag⟩).removeTrip t.number

/-- With the Trip List full, evict the oldest ASSIGNED or AWAITING_TRANSFER record (R122). -/
def State.makeRoom (s : State) : State :=
  if Config.tripRoom ≤ s.trips.length then { s with trips := s.trips.eraseP Trip.settled } else s

/-- Set a terminal AWAITING a trip (R59). -/
def State.await (s : State) (t n : Nat) : State :=
  s.setTerminal t { s.terminal t with service := .awaiting n }

/-- The record of a new trip (R101). -/
def State.newTrip (s : State) (terminal : Nat) (key : BadgeKey) (final group : Nat)
    (transfer : Option Nat) : Trip :=
  { number := s.nextTrip, key := key, terminal := terminal
    origin := (s.terminalConfig terminal).origin, final := final
    legs := if transfer.isSome then 2 else 1, transfer := transfer, leg := 1, group := group
    tag := s.nextTag, car := none, state := .queued, created := s.moment, expiry := none }

/-- The call of a new trip's first leg (R101). -/
def Trip.firstCall (t : Trip) (needs : Bool) : Call :=
  ⟨t.group, t.number, t.tag, t.origin, t.transfer.getD t.final, needs,
    if t.transfer.isSome then .oneOfTwo else .oneOfOne⟩

/-- Create a trip: supersede the key's record, make room, then the record, its tag, its call, and the
presenting terminal AWAITING (R101). -/
def State.createTrip (s : State) (terminal : Nat) (key : BadgeKey) (final group : Nat)
    (transfer : Option Nat) (needs : Bool) : State :=
  let s1 := match s.tripOfKey key with
    | some t => s.supersede t
    | none => s
  let s2 := s1.makeRoom
  let t := s2.newTrip terminal key final group transfer
  let s3 := { s2 with trips := s2.trips ++ [t], lastTrip := t.number, lastTag := t.tag }
  (s3.queueCall group (t.firstCall needs)).await terminal t.number

/-- A pass on its second leg, before its new tag is taken (R102). -/
def Trip.carried (t : Trip) (terminal group : Nat) : Trip :=
  { t with
    leg := 2, group := group, terminal := terminal, origin := t.transfer.getD t.origin
    car := none, expiry := none, state := .queued }

/-- Carry a pass on to its second leg: its leg-1 tag becomes free, a new tag is allocated, its call is
queued and the presenting terminal is AWAITING (R102). -/
def State.carryOn (s : State) (terminal : Nat) (t : Trip) (group : Nat) (needs : Bool) : State :=
  let s1 := s.updateTrip t.number (fun t => t.carried terminal group)
  let tag := s1.nextTag
  let s2 := { s1.updateTrip t.number (fun t => { t with tag := tag }) with lastTag := tag }
  let call : Call :=
    ⟨group, t.number, tag, t.transfer.getD t.origin, t.final, needs, .twoOfTwo⟩
  (s2.queueCall group call).await terminal t.number

/-- What an ending leaves behind (R82, R104). LOST_BADGE_SEEN is raised before the event of a hold that the
same denial brings (R34, R76, R90; assumption log 31). -/
def State.applyEnding (s : State) (terminal : Nat) (d : Decision) : State :=
  match d.ending with
  | .deny r => (if r = .lost then s.raise .lostBadgeSeen else s).deny terminal r d.destination
  | .retry r => s.placeAnswer ⟨terminal, .retry, some r, d.destination, none, none, false⟩
  | .repeated t => s.placeAnswer (t.repeatAnswer terminal)
  | .create g transfer needs =>
    s.createTrip terminal (d.key.getD ⟨0, 0⟩) (d.destination.getD 0) g transfer needs
  | .carry t g needs => s.carryOn terminal t g needs

/-- The verdict, reason and legs that a report gives an ending (R106). -/
def Ending.reported : Ending → Verdict × Option Reason × Option Nat
  | .deny r => (.denied, some r, none)
  | .retry r => (.retry, some r, none)
  | .repeated _ => (.repeated, none, none)
  | .create _ transfer _ => (.admitted, none, some (if transfer.isSome then 2 else 1))
  | .carry _ _ _ => (.admitted, none, some 2)

/-- The report of a decision (R106). -/
def State.reportOf (s : State) (p : Presentation) (d : Decision) : Report :=
  let v := d.ending.reported
  ⟨s.moment, s.clock.isSet, p.terminal, d.key, p.request, d.destination, v.1, v.2.1, v.2.2⟩

/-- Queue a report when reporting is enabled, or drop it with REPORTS_LOST when the Report FIFO is full
(R185). -/
def State.queueReport (s : State) (r : Report) : State :=
  if !s.settings.reporting then s
  else if s.reports.length < Config.reportRoom then { s with reports := s.reports ++ [r] }
  else s.raise .reportsLost

/-- The Admission Unit takes a presentation: the decision, what it leaves behind, its report (R81, R82,
R106). The report comes last, with its REPORTS_LOST (DEDUCED, unsafe: assumption log 43). -/
def State.admission (s : State) (p : Presentation) : State :=
  let d := s.decision p
  (s.applyEnding p.terminal d).queueReport (s.reportOf p d)

end Sys2Proof.Machine
end

