-- ==== Sys2Proof/Machine/Exchange.lean ====
section
/-! DEFINITION. The Call Exchange's side of a call: assignment, refusal and answer timeout (07_dispatcher_exchange.md, sections 7.3 and 7.4), and the ends of trips by their own timers (06, sections 6.3 and 6.4). -/

namespace Sys2Proof.Machine

/-! ## Assignment (R111, R112, R133, R134) -/

/-- Is the current leg the last one (R111)? -/
def Trip.onLastLeg (t : Trip) : Bool := decide (t.legs = 1) || decide (t.leg = 2)

/-- The record after an ASSIGN of its last leg (R111). -/
def Trip.assigned (t : Trip) (car now : Nat) (c : Settings) : Trip :=
  { t with state := .assigned, car := some car, expiry := some (now + c.repeatGuard * 1000) }

/-- The record after an ASSIGN of leg 1 of 2: a transfer pass (R112). -/
def Trip.passed (t : Trip) (car now : Nat) (c : Settings) : Trip :=
  { t with
    state := .awaitingTransfer, car := some car
    expiry := some (now + c.transferWindow * 1000) }

/-- A CALLED trip is assigned a car: its record advances, a first leg counts its visitor down, and its
terminal is answered ADMIT; with a repeat guard of 0 a record on its last leg is then removed (R32, R105,
R111, R112). -/
def State.assignTrip (s : State) (t : Trip) (car : Nat) : State :=
  let advance := fun t : Trip =>
    if t.onLastLeg then t.assigned car s.now s.settings else t.passed car s.now s.settings
  let s1 := s.updateTrip t.number advance
  let s2 := if t.leg = 1 then s1.countDown t.key else s1
  let s3 := s2.endAwait t
    (t.answer .admitted none (some car) (if t.onLastLeg then none else t.transfer))
  if t.onLastLeg && decide (s.settings.repeatGuard = 0) then s3.removeTrip t.number else s3

/-- An ASSIGN of an outstanding call (R133). -/
def State.assignCall (s : State) (g : Nat) (o : Outstanding) (car : Nat) : State :=
  let s1 := s.removeOutstanding g o.call.tag
  let s2 := match s1.tripOf o.call.trip with
    | none => s1
    | some t => s1.assignTrip t car
  s2.setGroup g { s2.group g with streak := 0 }

/-- Is the tag that of a trip of the group in ASSIGNED or AWAITING_TRANSFER (R134)? -/
def State.tagSettled (s : State) (g tag : Nat) : Bool :=
  s.trips.any (fun t => t.settled && decide (t.tag = tag) && decide (t.group = g))

/-- An ASSIGN of a group, its sign of life taken: a car outside 1 to 16 discards it (R132), an outstanding
tag is assigned (R133), a settled one is a repeat and an unknown one goes to the Cancel List (R134). -/
def State.takeAssign (s : State) (g tag car : Nat) : State :=
  if car = 0 || decide (16 < car) then s
  else match s.outstandingOf g tag with
    | some o => s.assignCall g o car
    | none => if s.tagSettled g tag then s else s.placeCancel ⟨g, tag⟩

/-! ## Refusal (R135) -/

/-- The reason a DECLINE gives the rider: FULL, or NO_SERVICE for every other value (R132, R135). -/
def declineReason (code : Nat) : Reason := if code = 1 then .groupBusy else .noService

/-- A DECLINE of a group, its sign of life taken (R135). -/
def State.takeDecline (s : State) (g tag code : Nat) : State :=
  match s.outstandingOf g tag with
  | none => s
  | some o => (s.removeOutstanding g tag).failTrip o.call.trip (declineReason code)

/-! ## Answer timeout and the SILENT transition (R136, R137) -/

/-- The streak rises by one, up to 3, and at 3 an IN_SERVICE group becomes SILENT and its queue is
withdrawn (R9, R136, R137). -/
def State.raiseStreak (s : State) (g : Nat) : State :=
  let v := s.group g
  let n := min 3 (v.streak + 1)
  if decide (n = 3) && decide (v.service = .inService) then
    ((s.setGroup g { v with streak := n, service := .silent }).raise .groupSilent).withdrawQueue g
  else s.setGroup g { v with streak := n }

/-- ANSWER_TIMEOUT: the deadline of an outstanding call is reached (R136). CANCEL_LOST comes before
GROUP_SILENT (DEDUCED, unsafe: assumption log 43). -/
def execAnswerTimeout (group tag : Nat) (s : State) : Host.Outcome State Fault Refusal :=
  .next (
    match s.outstandingOf group tag with
    | none => s
    | some o =>
      if s.operating then
        (((((s.reach o.deadline).removeOutstanding group tag).placeCancel
          ⟨group, tag⟩).failTrip o.call.trip .noAnswer).raiseStreak group)
      else s)

/-! ## Expiries of records (R114, R116) -/

/-- The expiry of a record in the given state has come: it is removed, silently. -/
def State.expireTrip (s : State) (n : Nat) (st : TripState) : State :=
  match s.tripOf n with
  | none => s
  | some t =>
    match t.expiry with
    | none => s
    | some d => if s.operating && decide (t.state = st) then (s.reach d).removeTrip n else s

/-- REPEAT_GUARD_EXPIRY: an ASSIGNED record's repeat guard ends and the record is removed (R114). -/
def execRepeatGuardExpiry (trip : Nat) (s : State) : Host.Outcome State Fault Refusal :=
  .next (s.expireTrip trip .assigned)

/-- TRANSFER_WINDOW_EXPIRY: a pass's transfer window ends and the pass is removed (R116). -/
def execTransferWindowExpiry (trip : Nat) (s : State) : Host.Outcome State Fault Refusal :=
  .next (s.expireTrip trip .awaitingTransfer)

end Sys2Proof.Machine
end

