-- ==== Sys2Proof/Machine/TerminalPort.lean ====
section
/-! DEFINITION. The Terminal Port Controller: polling, replies, the T-port transmitter, and the Denial Monitor's timers (04_terminals_polling_and_reader_decoding.md), with the receivers of both ports (09, R161). -/

namespace Sys2Proof.Machine

/-! ## Polling (R62) -/

/-- The terminal stations in ascending order. -/
def stations : List Nat := (List.range 64).map (· + 1)

/-- Is a station selected in a round of this count (R62)? -/
def State.selected (s : State) (round t : Nat) : Bool :=
  (s.terminalConfig t).configured && (!(s.terminal t).absent || decide (round = 0))

/-- The round count and station of the next poll, from a position of a round on; a round without a
selected station ends at once. `fuel` rounds are looked through (R62). Without a configured terminal the
round stays where it is (assumption log 38). -/
def State.nextPoll (s : State) : Nat → Nat → Nat → Option (Nat × Nat)
  | 0, _, _ => none
  | fuel + 1, round, position =>
    match stations.find? (fun t => decide (position < t) && s.selected round t) with
    | some t => some (round, t)
    | none => s.nextPoll fuel ((round + 1) % 8) 0

/-- The T-port line is free: no exchange is in progress (R66). -/
def State.tFree (s : State) : Bool := s.operating && s.exchange.isNone

/-- Put a frame on the T-port. The receiver, held in SYNC meanwhile, is IDLE at the end of it (R161). -/
def State.sendOnT (s : State) (frame : List Byte) : State :=
  { s with tLine := some frame, tReceiver := .idle }

/-- SEND_POLL: with the line free and both FIFOs empty, the next selected terminal of the round is polled
and its reply time starts (R62, R63, R66). -/
def execSendPoll (s : State) : Host.Outcome State Fault Refusal :=
  .next (
    if s.tFree && s.answers.isEmpty && s.toTerminals.isEmpty then
      match s.nextPoll 9 s.roundCount s.roundPosition with
      | none => s
      | some (round, t) =>
        { s.sendOnT (composeFrame t Config.tStation kindPoll []) with
          roundCount := round
          roundPosition := t
          exchange := some ⟨t, s.now + Config.replyTime, false, false⟩ }
    else s)

/-! ## Misses and replies (R63 to R65) -/

/-- A miss of the polled terminal; nothing when its record has become unconfigured since the poll
(R64, R65). -/
def State.miss (s : State) (x : Exchange) : State :=
  let v := s.terminal x.station
  if x.stale then s
  else if v.absent then s.setTerminal x.station { v with misses := 3 }
  else if 3 ≤ v.misses + 1 then
    (s.setTerminal x.station { v with misses := 3, absent := true }).raise .terminalAbsent
  else s.setTerminal x.station { v with misses := v.misses + 1 }

/-- A good reply of the polled terminal; nothing when its record has become unconfigured since the poll
(R65). -/
def State.goodReply (s : State) (x : Exchange) : State :=
  let v := s.terminal x.station
  if x.stale then s
  else if v.absent then
    (s.setTerminal x.station { v with misses := 0, absent := false }).raise .terminalPresent
  else s.setTerminal x.station { v with misses := 0 }

/-- The exchange has ended and the receiver is IDLE. -/
def State.endExchange (s : State) : State := { s with exchange := none, tReceiver := .idle }

/-- REPLY_TIME_EXPIRY: no frame has begun within the reply time, so the exchange ends in a miss (R63). -/
def execReplyTimeExpiry (s : State) : Host.Outcome State Fault Refusal :=
  .next (
    match s.exchange with
    | none => s
    | some x =>
      if x.begun || !s.operating then s else ({ s.reach x.deadline with exchange := none } : State).miss x)

/-- The good reply that a reception ending now holds: the exchange it ends and its frame (R63). -/
def State.replyFrame (s : State) (r : Reception) : Option (Exchange × Frame) :=
  if s.operating && decide (s.tReceiver = .receiving) then
    match s.exchange, judge r with
    | some x, some f =>
      if x.begun && decide (f.source = x.station) && decide (f.destination = Config.tStation) then
        some (x, f)
      else none
    | _, _ => none
  else none

/-- Offer a poll reply to the T-to-G relay FIFO (R169). -/
def State.offerToNetwork (s : State) (kind : Nat) (frame : List Byte) : State :=
  if byteOf kind ∈ s.settings.tToG then
    if s.toNetwork.length < Config.relayRoom then { s with toNetwork := s.toNetwork ++ [frame] }
    else s.raise .relayLost
  else s

/-- POLL_REPLY: a good reply of kind NIL, or of another kind than PRESENT, which is offered for relay
(R65, R169). -/
def execPollReply (r : Reception) (s : State) : Host.Outcome State Fault Refusal :=
  .next (
    match s.replyFrame r with
    | none => s
    | some (x, f) =>
      if f.kind = kindPresent then s
      else
        let s1 := s.endExchange.goodReply x
        if x.stale || decide (f.kind = kindNil) then s1 else s1.offerToNetwork f.kind r.bytes)

/-- Is a PRESENT of this terminal discarded because an answer is still to come (R72)? -/
def State.inFlight (s : State) (t : Nat) : Bool :=
  (s.terminal t).service.pendingTrip.isSome || s.answerWaiting t

/-- A PRESENT taken from a terminal: discarded with the overrun mark set, or decided (R72). -/
def State.takePresent (s : State) (t : Nat) (payload : List Byte) : State :=
  if s.inFlight t then s.setTerminal t { s.terminal t with overrun := true }
  else s.admission (presentationOf t payload)

/-- PRESENT_REPLY: a good reply of kind PRESENT. One of other than 10 bytes is discarded (R65, R72,
R193). -/
def execPresentReply (r : Reception) (s : State) : Host.Outcome State Fault Refusal :=
  .next (
    match s.replyFrame r with
    | none => s
    | some (x, f) =>
      if f.kind ≠ kindPresent then s
      else
        let s1 := s.endExchange.goodReply x
        if x.stale || decide (f.payload.length ≠ 10) then s1
        else s1.takePresent x.station f.payload)

/-! ## The T-port transmitter (R66, R67) -/

/-- Does an answer or relayed frame for the station go out: is it configured and PRESENT (R67)? -/
def State.reachable (s : State) (t : Nat) : Bool :=
  (s.terminalConfig t).configured && !(s.terminal t).absent

/-- SEND_ANSWER: with the line free, the head answer is sent with the overrun mark, or discarded for an
unconfigured or ABSENT terminal; the mark becomes clear (R67). A terminal erased and written again since the
answer was placed counts as it stands now (R61; assumption log 37). -/
def execSendAnswer (s : State) : Host.Outcome State Fault Refusal :=
  .next (
    match s.answers with
    | [] => s
    | a :: rest =>
      if s.tFree then
        let v := s.terminal a.terminal
        let s1 := ({ s with answers := rest } : State).setTerminal a.terminal
          { v with overrun := false }
        if s.reachable a.terminal then
          s1.sendOnT (composeFrame a.terminal Config.tStation kindAnswer
            (answerPayload a v.overrun))
        else s1
      else s)

/-- SEND_G_TO_T_RELAY: with the line free and the answer FIFO empty, the head relayed frame is sent
unchanged, or discarded for an unconfigured or ABSENT terminal (R66, R67, R168), as the terminal stands now
(R61; assumption log 37). -/
def execSendGToTRelay (s : State) : Host.Outcome State Fault Refusal :=
  .next (
    match s.toTerminals with
    | [] => s
    | frame :: rest =>
      if s.tFree && s.answers.isEmpty then
        let s1 := { s with toTerminals := rest }
        if s.reachable (numAt frame 0 1) then s1.sendOnT frame else s1
      else s)

/-! ## The Denial Monitor's timers (R75, R77) -/

/-- DECAY_EXPIRY: the tally falls by one and the timer starts again while it stays above 0 (R75). -/
def execDecayExpiry (station : Nat) (s : State) : Host.Outcome State Fault Refusal :=
  .next (
    match (s.terminal station).decay with
    | none => s
    | some d =>
      if s.operating then
        let v := s.terminal station
        (s.reach d).setTerminal station { v with
          tally := v.tally - 1
          decay := if 1 < v.tally then some (max s.now d + decayTime s.settings.decayCode)
            else none }
      else s)

/-- HOLD_EXPIRY: a HELD terminal's hold timer expires and the terminal becomes IDLE (R77). -/
def execHoldExpiry (station : Nat) (s : State) : Host.Outcome State Fault Refusal :=
  .next (
    match (s.terminal station).service with
    | .held d =>
      if s.operating then
        (s.reach d).setTerminal station { s.terminal station with service := .idle }
      else s
    | .idle | .awaiting _ | .latched => s)

/-! ## The receivers (R161) -/

/-- RECEIVER_IDLE: a receiver in SYNC finds the line idle for 3.5 character times (R161). During LOADING
and in reset the receivers are held in SYNC. -/
def execReceiverIdle (port : Port) (s : State) : Host.Outcome State Fault Refusal :=
  .next (
    match port with
    | .terminal =>
      if s.operating && decide (s.tReceiver = .sync) then { s with tReceiver := .idle } else s
    | .group =>
      if s.operating && decide (s.gReceiver = .sync) then { s with gReceiver := .idle } else s)

/-- RECEPTION_START: a character begins a reception on an IDLE receiver; on the T-port, within a poll's
reply time, it is the poll's reply (R63, R161). -/
def execReceptionStart (port : Port) (s : State) : Host.Outcome State Fault Refusal :=
  .next (
    match port with
    | .terminal =>
      if s.operating && decide (s.tReceiver = .idle) then
        { s with
          tReceiver := .receiving
          exchange := s.exchange.map (fun x => { x with begun := true }) }
      else s
    | .group =>
      if s.operating && decide (s.gReceiver = .idle) then { s with gReceiver := .receiving }
      else s)

end Sys2Proof.Machine
end

