-- ==== Sys2Proof/Machine/GroupPort.lean ====
section
/-! DEFINITION. The G-port Controller: receive classification and the transmit arbiter, and the end of a reception that no other command takes (09_the_call_link.md, sections 9.3 to 9.5). -/

namespace Sys2Proof.Machine

/-! ## What the G-port receives (R165, R166) -/

/-- What the G-port Controller makes of a good frame (R165, R166). -/
inductive Arrival where
  /-- an MREQ from the head-end -/
  | mreq
  /-- an ASSIGN for the part -/
  | assign
  /-- a DECLINE for the part -/
  | decline
  /-- a frame for the part that is discarded for its kind or its source -/
  | discarded
  /-- a candidate for relay to a terminal -/
  | relay
  /-- not addressed to the part -/
  | ignored
  deriving DecidableEq, Repr

/-- The receive classification (R165, R166). -/
def State.classify (s : State) (f : Frame) : Arrival :=
  if f.destination = s.settings.ownStation then
    if f.kind = kindMreq then if f.source = s.settings.headEnd then .mreq else .discarded
    else if f.kind = kindAssign then .assign
    else if f.kind = kindDecline then .decline
    else .discarded
  else if decide (1 ≤ f.destination) && decide (f.destination ≤ 64) &&
      (s.groupOfStation f.destination).isNone && decide (f.destination ≠ s.settings.headEnd) &&
      decide (f.destination ≠ f.source) then .relay
  else .ignored

/-- The good frame of this class that a reception ending now on the G-port holds (R162, R165). -/
def State.arrival (s : State) (r : Reception) (a : Arrival) : Option Frame :=
  if s.operating && decide (s.gReceiver = .receiving) then
    (judge r).filter (fun f => decide (s.classify f = a))
  else none

/-- A frame has been handed on: the receiver is IDLE, and the frame is a sign of life of the group whose
station is its source (R138, R161, R165). -/
def State.handOn (s : State) (f : Frame) : State :=
  ({ s with gReceiver := .idle } : State).signOfLifeFrom f.source

/-- RECEIVE_MREQ: a good MREQ from the head-end joins the request FIFO, or is discarded with PORT_OVERRUN
when the FIFO is full (R166). -/
def execReceiveMreq (r : Reception) (s : State) : Host.Outcome State Fault Refusal :=
  .next (
    match s.arrival r .mreq with
    | none => s
    | some f =>
      let s1 := s.handOn f
      if s1.requests.length < Config.requestRoom then
        { s1 with requests := s1.requests ++ [f.payload] }
      else s1.raise .portOverrun)

/-- RECEIVE_G_TO_T_RELAY: a good frame for a terminal station joins the G-to-T relay FIFO when its kind is
in the relay set and the terminal is configured, and is discarded otherwise (R168). -/
def execReceiveGToTRelay (r : Reception) (s : State) : Host.Outcome State Fault Refusal :=
  .next (
    match s.arrival r .relay with
    | none => s
    | some f =>
      let s1 := s.handOn f
      if byteOf f.kind ∈ s1.settings.gToT ∧ (s1.terminalConfig f.destination).configured then
        if s1.toTerminals.length < Config.relayRoom then
          { s1 with toTerminals := s1.toTerminals ++ [r.bytes] }
        else s1.raise .relayLost
      else s1)

/-- RECEIVE_ASSIGN: an ASSIGN is a sign of life of its group, and with 3 bytes it is handled against the
group's Outstanding Call Table; from no group's station it is discarded (R132 to R134, R193). -/
def execReceiveAssign (r : Reception) (s : State) : Host.Outcome State Fault Refusal :=
  .next (
    match s.arrival r .assign with
    | none => s
    | some f =>
      let s1 := s.handOn f
      match s1.groupOfStation f.source with
      | none => s1
      | some g =>
        if f.payload.length ≠ 3 then s1
        else s1.takeAssign g (numAt f.payload 0 2) (numAt f.payload 2 1))

/-- RECEIVE_DECLINE: a DECLINE is a sign of life of its group, and with 3 bytes it is handled against the
group's Outstanding Call Table; from no group's station it is discarded (R132, R135, R193). -/
def execReceiveDecline (r : Reception) (s : State) : Host.Outcome State Fault Refusal :=
  .next (
    match s.arrival r .decline with
    | none => s
    | some f =>
      let s1 := s.handOn f
      match s1.groupOfStation f.source with
      | none => s1
      | some g =>
        if f.payload.length ≠ 3 then s1
        else s1.takeDecline g (numAt f.payload 0 2) (numAt f.payload 2 1))

/-! ## The end of a reception that no other command takes (R162, R63) -/

/-- A reception ends on the T-port: a failed or misaddressed reply raises LINK_ERRORS and is a miss; a
frame outside a reply time is discarded, with LINK_ERRORS when it fails (R63, R162). LINK_ERRORS is raised
before the TERMINAL_ABSENT of the same reply (assumption log 36). -/
def State.endOnT (s : State) (r : Reception) : State :=
  let outside :=
    let s1 := { s with tReceiver := .idle }
    if (judge r).isNone then s1.raise .linkErrors else s1
  match s.exchange with
  | none => outside
  | some x =>
    if !x.begun then outside
    else if (s.replyFrame r).isSome then s
    else (s.endExchange.raise .linkErrors).miss x

/-- A reception ends on the G-port: a failed one raises LINK_ERRORS, an ignored frame does nothing, and
one discarded for its kind or its source is a sign of life (R138, R162, R165, R166). -/
def State.endOnG (s : State) (r : Reception) : State :=
  match judge r with
  | none => ({ s with gReceiver := .idle } : State).raise .linkErrors
  | some f =>
    match s.classify f with
    | .ignored => { s with gReceiver := .idle }
    | .discarded => s.handOn f
    | .mreq | .assign | .decline | .relay => s

/-- RECEPTION_END: a reception ends and is judged. The ends that another row of the table takes are that
row's (assumption log 27). -/
def execReceptionEnd (port : Port) (r : Reception) (s : State) :
    Host.Outcome State Fault Refusal :=
  .next (
    match port with
    | .terminal =>
      if s.operating && decide (s.tReceiver = .receiving) then s.endOnT r else s
    | .group =>
      if s.operating && decide (s.gReceiver = .receiving) then s.endOnG r else s)

/-! ## The G-port transmitter (R129, R170, R171) -/

/-- Has a group a sendable CALL (R129)? -/
def State.sendable (s : State) (g : Nat) : Bool :=
  !(s.group g).queue.isEmpty &&
    decide ((s.group g).outstanding.length < (s.groupConfig g).limit) && decide (s.mode = .normal)

/-- The groups in the order the arbiter examines them, from the one after the last-served group
(R171). -/
def State.rotation (s : State) : List Nat := (List.range 6).map (fun i => (s.lastServed + i) % 6 + 1)

/-- The six sources of the arbiter (R170). -/
inductive Source where
  | cancel
  | call (group : Nat)
  | response
  | notice
  | relay
  | report
  deriving DecidableEq, Repr

/-- The first source, in the arbiter's order, that holds a frame (R170, R171). While the MRSP of a RESTART
is on the line the transmitter is not free (R173; assumption log 18). -/
def State.arbiter (s : State) : Option Source :=
  if !s.operating || decide (s.restart = .transmitted) then none
  else if !s.cancels.isEmpty then some .cancel
  else match s.rotation.find? s.sendable with
    | some g => some (.call g)
    | none =>
      if !s.responses.isEmpty then some .response
      else if !s.notices.isEmpty then some .notice
      else if !s.toNetwork.isEmpty then some .relay
      else if !s.reports.isEmpty then some .report
      else none

/-- Put a frame on the G-port. -/
def State.sendOnG (s : State) (frame : List Byte) : State := { s with gLine := some frame }

/-- Compose a frame from the own station to a station and put it on the G-port (R164). -/
def State.composeOnG (s : State) (destination kind : Nat) (payload : List Byte) : State :=
  s.sendOnG (composeFrame destination s.settings.ownStation kind payload)

/-- SEND_CANCEL: the head of the Cancel List is sent to its group's station, or discarded when the group
has none (R140). -/
def execSendCancel (s : State) : Host.Outcome State Fault Refusal :=
  .next (
    match s.arbiter, s.cancels with
    | some .cancel, c :: rest =>
      let s1 := { s with cancels := rest }
      match (s.groupConfig c.group).station with
      | some st => s1.composeOnG st kindCancel (cancelPayload c)
      | none => s1
    | _, _ => s)

/-- SEND_CALL: in group rotation, the head call of the first group with a sendable CALL becomes
outstanding with its deadline set, its trip becomes CALLED, and the CALL frame goes to the group's station
(R110, R131, R171). -/
def execSendCall (s : State) : Host.Outcome State Fault Refusal :=
  .next (
    match s.arbiter with
    | some (.call g) =>
      match (s.group g).queue with
      | [] => s
      | c :: rest =>
        let conf := s.groupConfig g
        let o : Outstanding := ⟨c, s.now + conf.timeout * 250⟩
        let s1 := s.setGroup g { s.group g with
          queue := rest, outstanding := (s.group g).outstanding ++ [o] }
        let s2 := s1.updateTrip c.trip (fun t => { t with state := .called })
        let s3 := { s2 with lastServed := g }
        match conf.station with
        | some st => s3.composeOnG st kindCall (callPayload c)
        | none => s3
    | _ => s)

/-- Operation code of RESTART (12.4). -/
def opRestart : Nat := 19

/-- Is a response the OK of a RESTART? -/
def Response.restarts (r : Response) : Bool :=
  decide (r.operation = byteOf opRestart) && decide (r.code = .ok)

/-- SEND_MRSP: the head of the response FIFO is sent to the head-end station (R164, R174). The OK of a
RESTART lets the restart be made (R173). -/
def execSendMrsp (s : State) : Host.Outcome State Fault Refusal :=
  .next (
    match s.arbiter, s.responses with
    | some .response, r :: rest =>
      let s1 := { s with
        responses := rest
        restart := if decide (s.restart = RestartPhase.answered) && r.restarts then .transmitted
          else s.restart }
      s1.composeOnG s.settings.headEnd kindMrsp (mrspPayload r)
    | _, _ => s)

/-- SEND_NOTICE: the head of the Notice FIFO is sent to the head-end station (R182). -/
def execSendNotice (s : State) : Host.Outcome State Fault Refusal :=
  .next (
    match s.arbiter, s.notices with
    | some .notice, n :: rest =>
      ({ s with notices := rest } : State).composeOnG s.settings.headEnd kindNotice
        (noticePayload n)
    | _, _ => s)

/-- SEND_T_TO_G_RELAY: the head of the T-to-G relay FIFO is sent unchanged (R169). -/
def execSendTToGRelay (s : State) : Host.Outcome State Fault Refusal :=
  .next (
    match s.arbiter, s.toNetwork with
    | some .relay, frame :: rest => ({ s with toNetwork := rest } : State).sendOnG frame
    | _, _ => s)

/-- SEND_REPORT: the head of the Report FIFO is sent to the head-end station (R185). -/
def execSendReport (s : State) : Host.Outcome State Fault Refusal :=
  .next (
    match s.arbiter, s.reports with
    | some .report, r :: rest =>
      ({ s with reports := rest } : State).composeOnG s.settings.headEnd kindReport
        (reportPayload r)
    | _, _ => s)

end Sys2Proof.Machine
end

