-- ==== Sys2Proof/Machine/Management.lean ====
section
/-! DEFINITION. How the Management Agent takes a request: which command a request is, the checks of R175 in their order, and the response (10_management_events_and_reports.md, section 10.1; 12.4). -/

namespace Sys2Proof.Machine

/-! ## Which command a request is (12.4) -/

/-- Operation codes (12.4). -/
def opRead : Nat := 1
def opFind : Nat := 2
def opWrite : Nat := 3
def opErase : Nat := 4
def opReadStatus : Nat := 5
def opSwitchBanks : Nat := 16
def opCopyActiveToStandby : Nat := 17
def opSaveImage : Nat := 18
def opStartService : Nat := 20
def opSetTime : Nat := 21
def opSetSiteCode : Nat := 22
def opReleaseTerminal : Nat := 23
def opAckLine : Nat := 24
def opLockZones : Nat := 25
def opUnlockZones : Nat := 26
def opHoldGroup : Nat := 27
def opResumeGroup : Nat := 28
def opEnterRecall : Nat := 29
def opLeaveRecall : Nat := 30
def opClearEvents : Nat := 31

/-- Table numbers (12.4). -/
def tabCredential : Nat := 1
def tabProfile : Nat := 2
def tabTenant : Nat := 3
def tabHoliday : Nat := 4
def tabLanding : Nat := 5
def tabGroup : Nat := 6
def tabSkyLobby : Nat := 7
def tabTerminal : Nat := 8
def tabFormat : Nat := 9
def tabFacility : Nat := 10
def tabAlarmLine : Nat := 11
def tabSettings : Nat := 12
def tabTripList : Nat := 13
def tabBuilding : Nat := 14

/-- The operation of a request: byte 1; 0, which is no operation, when there is no such byte. -/
def requestOp (p : List Byte) : Nat := numAt p 1 1

/-- The table a READ, FIND, WRITE or ERASE names: byte 6; 0, which is no table, when there is none. -/
def requestTable (p : List Byte) : Nat := numAt p 6 1

/-- The bank byte. -/
def requestBank (p : List Byte) : Nat := numAt p 7 1

/-- The index. -/
def requestIndex (p : List Byte) : Nat := numAt p 8 2

/-- The site code a request carries: bytes 2 to 5. -/
def requestCode (p : List Byte) : BitVec 32 := BitVec.ofNat 32 (numAt p 2 4)

/-- Where the record of a WRITE and the operands of a command begin (12.4). -/
def recordAt : Nat := 10
def operandAt : Nat := 6

/-- Is the request this operation? -/
def isOp (op : Nat) (p : List Byte) : Bool := decide (requestOp p = op)

/-- Is the request this operation on this table? -/
def isTableOp (op table : Nat) (p : List Byte) : Bool :=
  decide (requestOp p = op) && decide (requestTable p = table)

/-- Is the request a READ of a table the part defines? Every table is read (R175). -/
def isRead (p : List Byte) : Bool :=
  decide (requestOp p = opRead) && decide (1 ≤ requestTable p) && decide (requestTable p ≤ 14)

/-- The operations that name a table. -/
def namesTable (p : List Byte) : Bool := decide (1 ≤ requestOp p) && decide (requestOp p ≤ 4)

/-- Is the operation one of those the part defines (12.4)? -/
def opDefined (p : List Byte) : Bool :=
  (decide (1 ≤ requestOp p) && decide (requestOp p ≤ 5)) ||
    (decide (16 ≤ requestOp p) && decide (requestOp p ≤ 31))

/-- Does the table named exist and accept the operation (R175)? -/
def tableAccepts (p : List Byte) : Bool :=
  isRead p || isTableOp opFind tabCredential p ||
    (isOp opWrite p && decide (1 ≤ requestTable p) && decide (requestTable p ≤ 12)) ||
    (isOp opErase p && decide (1 ≤ requestTable p) && decide (requestTable p ≤ 11))

/-- Is the request one whose operation the part does not define, or whose table it does not define or does
not accept the operation for (R175; assumption log 12)? -/
def isUndefined (p : List Byte) : Bool := !opDefined p || (namesTable p && !tableAccepts p)

/-! ## The response (R173, R174) -/

/-- What the handling of a request gives: the state, the code and the data part. -/
structure Reply where
  state : State
  code : Code
  data : List Byte
  deriving DecidableEq, Repr

/-- A refusal: nothing changes and there is no data part (R174, R175). -/
def State.refuse (s : State) (c : Code) : Reply := ⟨s, c, []⟩

/-- OK without a data part. -/
def State.accept (s : State) : Reply := ⟨s, .ok, []⟩

/-- OK, or OK_CLAMPED, with a data part (R174, R176). -/
def State.acceptWith (s : State) (clamped : Bool) (data : List Byte) : Reply :=
  ⟨s, if clamped then .okClamped else .ok, data⟩

/-- The response's echo of the request number and operation. A byte the request does not have has no stated
value (assumption log 11). -/
def State.respond (s : State) (p : List Byte) (c : Code) (data : List Byte) : State :=
  { s with
    responses := s.responses ++
      [⟨p.getD 0 (Config.freeByte s.freeCount), p.getD 1 (Config.freeByte (s.freeCount + 1)), c,
        data⟩]
    freeCount := if p.length < 2 then s.freeCount + 2 else s.freeCount }

/-- May the Agent take a request: is there room for its response and no RESTART on its way (R173)? -/
def State.agentFree (s : State) : Bool :=
  s.operating && decide (s.responses.length < Config.responseRoom) &&
    decide (s.restart = RestartPhase.none)

/-- The Agent takes the request at the head of the request FIFO, when it is the caller's, handles it whole
and places its response (R173). -/
def State.serve (s : State) (mine : List Byte → Bool) (handle : List Byte → State → Reply) : State :=
  match s.requests with
  | [] => s
  | p :: rest =>
    if s.agentFree && mine p then
      let r := handle p { s with requests := rest }
      r.state.respond p r.code r.data
    else s

/-! ## The checks (R175) -/

/-- Check 1: the payload holds `need` bytes. -/
def State.checkLength (s : State) (p : List Byte) (need : Nat) (k : Reply) : Reply :=
  if p.length < need then s.refuse .badField else k

/-- Check 2: the site code matches, else AUTH_FAILED is raised (R177). -/
def State.checkCode (s : State) (p : List Byte) (k : Reply) : Reply :=
  if requestCode p = s.siteCode.code then k else (s.raise .authFailed).refuse .notAuthorized

/-- Check 3: the image is not being saved. -/
def State.checkSaving (s : State) (k : Reply) : Reply :=
  if s.saving.isSome then s.refuse .busy else k

/-- Check 5: the index lies within the table. -/
def State.checkIndex (s : State) (ok : Bool) (k : Reply) : Reply :=
  if ok then k else s.refuse .badIndex

/-- Check 6: a structural field lies within its range. -/
def State.checkField (s : State) (ok : Bool) (k : Reply) : Reply :=
  if ok then k else s.refuse .badField

/-- The checks before the table's own, for a request that changes a table or the image: WRITE, ERASE,
SWITCH_BANKS, COPY_ACTIVE_TO_STANDBY and SAVE_IMAGE. -/
def State.checkChange (s : State) (p : List Byte) (need : Nat) (k : Reply) : Reply :=
  s.checkLength p need (s.checkCode p (s.checkSaving k))

/-- The checks before the owner's own, for a command that is accepted while the image is being saved. -/
def State.checkCommand (s : State) (p : List Byte) (need : Nat) (k : Reply) : Reply :=
  s.checkLength p need (s.checkCode p k)

/-- Clamp a value into a range (R176). -/
def clamp (lo hi n : Nat) : Nat := max lo (min hi n)

/-- Is a value outside a range, so that it is clamped? -/
def clamps (lo hi n : Nat) : Bool := decide (n < lo) || decide (hi < n)

/-! ## UNDEFINED_OPERATION -/

/-- The fixed fields of an operation on a table the part does not define (12.4; assumption log 12): a FIND
carries a key after the index. -/
def undefinedNeed (p : List Byte) : Nat := if isOp opFind p then 16 else 10

/-- An undefined operation, or a payload too short for its fixed fields, is BAD_FIELD; a table the part does
not define, or one that does not accept the operation, is BAD_TABLE, after the checks of the site code
and the save for a WRITE or ERASE (R175). -/
def handleUndefined (p : List Byte) (s : State) : Reply :=
  if !opDefined p then s.refuse .badField
  else s.checkLength p (undefinedNeed p)
    (if isOp opWrite p || isOp opErase p then s.checkCode p (s.checkSaving (s.refuse .badTable))
      else s.refuse .badTable)

/-- UNDEFINED_OPERATION (R175). -/
def execUndefinedOperation (s : State) : Host.Outcome State Fault Refusal :=
  .next (s.serve isUndefined handleUndefined)

end Sys2Proof.Machine
end

