-- ==== Sys2Proof/Machine/TableRequests.lean ====
section
/-! DEFINITION. WRITE and ERASE of the tables: the Credential Table (02), the policy tables (01, R4; 03), the Group Table and Sky Lobby List (01), the Terminal Table, formats and facility ranges (04), and the alarm lines (08). Every handler stands behind the checks of R175. -/

namespace Sys2Proof.Machine

/-! ## The Credential Table (R23 to R26, R29) -/

/-- Do the structural fields of a badge entry lie within their ranges (R23)? -/
def BadgeEntry.fieldsGood (e : BadgeEntry) : Bool :=
  e.tenant.all (fun n => decide (n ≤ 63)) && e.defaultLanding.all (fun l => decide (l ≤ 127)) &&
    e.endDay.all (fun d => decide (e.startDay ≤ d)) &&
    (decide (e.cls ≠ .visitor) || decide (1 ≤ e.trips.getD 0))

/-- The entry as stored: trips remaining are absent for every class but VISITOR (R24). -/
def BadgeEntry.stored (e : BadgeEntry) : BadgeEntry :=
  { e with trips := if e.cls = .visitor then e.trips else none }

/-- The lowest-numbered empty way of a key's bucket (R25). -/
def State.emptyWay (s : State) (k : BadgeKey) : Option Nat :=
  (waysOf (bucketOf k)).find? (fun w => (s.way w).isNone)

/-- The state with an entry placed in a way; a SUSPENDED or LOST entry drops the key's waiting pass
(R29). -/
def State.putEntry (s : State) (w : Nat) (e : BadgeEntry) : State :=
  let s1 := s.setWay w (some e)
  if e.state = .active then s1 else s1.dropPass e.key

/-- Place an entry: in the way that holds its key, else in the lowest empty way, the population rising by
one, else BUCKET_FULL (R25). -/
def State.placeEntry (s : State) (e : BadgeEntry) : Reply :=
  let data := badgeBytes e s.freeCount
  let s1 := { s with freeCount := s.freeCount + badgeFree }
  match s.lookupWay e.key with
  | some w => (s1.putEntry w e).acceptWith false data
  | none =>
    match s.emptyWay e.key with
    | some w => ({ s1 with population := s.population + 1 }.putEntry w e).acceptWith false data
    | none => s.refuse .bucketFull

/-- A WRITE to the Credential Table (R23 to R25). -/
def handleWriteCredential (p : List Byte) (s : State) : Reply :=
  let e := badgeAt p recordAt
  s.checkChange p 26 (s.checkField e.fieldsGood (s.placeEntry e.stored))

/-- WRITE_CREDENTIAL. -/
def execWriteCredential (s : State) : Host.Outcome State Fault Refusal :=
  .next (s.serve (isTableOp opWrite tabCredential) handleWriteCredential)

/-- Empty the way of a key and drop its waiting pass, or NOT_FOUND (R26, R29). -/
def State.eraseKey (s : State) (k : BadgeKey) : Reply :=
  match s.lookupWay k with
  | none => s.refuse .notFound
  | some w =>
    ({ s.setWay w none with population := s.population - 1 }.dropPass k).accept

/-- An ERASE of the Credential Table (R26). -/
def handleEraseCredential (p : List Byte) (s : State) : Reply :=
  s.checkChange p 16 (s.eraseKey (keyAt p recordAt))

/-- ERASE_CREDENTIAL. -/
def execEraseCredential (s : State) : Host.Outcome State Fault Refusal :=
  .next (s.serve (isTableOp opErase tabCredential) handleEraseCredential)

/-! ## The policy tables, in the standby bank (R4, R39, R44, R46, R47) -/

/-- The band a profile WRITE carries, its length clamped (R44, 12.4). -/
def bandAt (p : List Byte) : Band :=
  ⟨BitVec.ofNat 8 (numAt p 10 1), numAt p 11 2, min 1440 (numAt p 13 2), landingSetAt p 15⟩

/-- Store a band slot of the standby bank. -/
def State.setBand (s : State) (i : Nat) (v : Option Band) : State :=
  s.setStandby { s.standby with profiles := s.standby.profiles.set none i v }

/-- A WRITE to the Profile Table (R44). -/
def handleWriteProfile (p : List Byte) (s : State) : Reply :=
  s.checkChange p 31
    (s.checkIndex (requestIndex p ≤ 1023)
      (s.checkField (decide (numAt p 11 2 < 1440) && decide (1 ≤ numAt p 13 2))
        ((s.setBand (requestIndex p) (some (bandAt p))).acceptWith
          (decide (1440 < numAt p 13 2)) (bandBytes (bandAt p)))))

/-- WRITE_PROFILE. -/
def execWriteProfile (s : State) : Host.Outcome State Fault Refusal :=
  .next (s.serve (isTableOp opWrite tabProfile) handleWriteProfile)

/-- An ERASE of a band slot (R44). -/
def handleEraseProfile (p : List Byte) (s : State) : Reply :=
  s.checkChange p 10
    (s.checkIndex (requestIndex p ≤ 1023) (s.setBand (requestIndex p) none).accept)

/-- ERASE_PROFILE. -/
def execEraseProfile (s : State) : Host.Outcome State Fault Refusal :=
  .next (s.serve (isTableOp opErase tabProfile) handleEraseProfile)

/-- The tenant record a WRITE carries: lease, then state (R46; assumption log 9). -/
def tenantAt (p : List Byte) : Tenant := ⟨landingSetAt p 10, decide (numAt p 26 1 = 1)⟩

/-- Store a tenant record of the standby bank. -/
def State.setTenant (s : State) (i : Nat) (v : Tenant) : State :=
  s.setStandby { s.standby with tenants := s.standby.tenants.set {} i v }

/-- A WRITE to the Tenant Table (R46); a state code above 1 is BAD_FIELD (R193). -/
def handleWriteTenant (p : List Byte) (s : State) : Reply :=
  s.checkChange p 27
    (s.checkIndex (requestIndex p ≤ 63)
      (s.checkField (numAt p 26 1 ≤ 1)
        ((s.setTenant (requestIndex p) (tenantAt p)).acceptWith false (tenantBytes (tenantAt p)))))

/-- WRITE_TENANT. -/
def execWriteTenant (s : State) : Host.Outcome State Fault Refusal :=
  .next (s.serve (isTableOp opWrite tabTenant) handleWriteTenant)

/-- An ERASE of a tenant record (R46). -/
def handleEraseTenant (p : List Byte) (s : State) : Reply :=
  s.checkChange p 10
    (s.checkIndex (requestIndex p ≤ 63) (s.setTenant (requestIndex p) {}).accept)

/-- ERASE_TENANT. -/
def execEraseTenant (s : State) : Host.Outcome State Fault Refusal :=
  .next (s.serve (isTableOp opErase tabTenant) handleEraseTenant)

/-- Store a Holiday List slot of the standby bank. -/
def State.setHoliday (s : State) (i : Nat) (v : Option Nat) : State :=
  s.setStandby { s.standby with holidays := s.standby.holidays.set none i v }

/-- A WRITE to the Holiday List (R47). -/
def handleWriteHoliday (p : List Byte) (s : State) : Reply :=
  s.checkChange p 12
    (s.checkIndex (requestIndex p ≤ 31)
      ((s.setHoliday (requestIndex p) (some (numAt p 10 2))).acceptWith false
        (bytesOfNat 2 (numAt p 10 2))))

/-- WRITE_HOLIDAY. -/
def execWriteHoliday (s : State) : Host.Outcome State Fault Refusal :=
  .next (s.serve (isTableOp opWrite tabHoliday) handleWriteHoliday)

/-- An ERASE of a Holiday List slot (R47). -/
def handleEraseHoliday (p : List Byte) (s : State) : Reply :=
  s.checkChange p 10
    (s.checkIndex (requestIndex p ≤ 31) (s.setHoliday (requestIndex p) none).accept)

/-- ERASE_HOLIDAY. -/
def execEraseHoliday (s : State) : Host.Outcome State Fault Refusal :=
  .next (s.serve (isTableOp opErase tabHoliday) handleEraseHoliday)

/-- The landing record a WRITE carries (R4). -/
def landingAt (p : List Byte) : Landing :=
  ⟨numAt p 10 1, decide (numAt p 11 1 = 1), decide (numAt p 12 1 = 1)⟩

/-- Store a landing record of the standby bank. -/
def State.setLanding (s : State) (i : Nat) (v : Landing) : State :=
  s.setStandby { s.standby with landings := s.standby.landings.set {} i v }

/-- A WRITE to the Landing Table (R4); a mark other than 0 or 1 is BAD_FIELD (R193). -/
def handleWriteLanding (p : List Byte) (s : State) : Reply :=
  s.checkChange p 13
    (s.checkIndex (requestIndex p ≤ 127)
      (s.checkField (decide (numAt p 10 1 ≤ 15) && decide (numAt p 11 1 ≤ 1) &&
          decide (numAt p 12 1 ≤ 1))
        ((s.setLanding (requestIndex p) (landingAt p)).acceptWith false
          (landingBytes (landingAt p)))))

/-- WRITE_LANDING. -/
def execWriteLanding (s : State) : Host.Outcome State Fault Refusal :=
  .next (s.serve (isTableOp opWrite tabLanding) handleWriteLanding)

/-- An ERASE of a landing record (R4). -/
def handleEraseLanding (p : List Byte) (s : State) : Reply :=
  s.checkChange p 10
    (s.checkIndex (requestIndex p ≤ 127) (s.setLanding (requestIndex p) {}).accept)

/-- ERASE_LANDING. -/
def execEraseLanding (s : State) : Host.Outcome State Fault Refusal :=
  .next (s.serve (isTableOp opErase tabLanding) handleEraseLanding)

/-! ## The Group Table (R6 to R8) -/

/-- The group configuration a WRITE carries, limit and timeout clamped (R6). -/
def groupAt (p : List Byte) : GroupConfig :=
  ⟨some (numAt p 10 1), landingSetAt p 11, clamp 1 16 (numAt p 27 1), clamp 1 32 (numAt p 28 1)⟩

/-- Does another group's entry hold the station (R6)? -/
def State.stationTaken (s : State) (g station : Nat) : Bool :=
  groupNumbers.any (fun h =>
    decide (h ≠ g) && decide ((s.groupConfig h).station = some station))

/-- Write a group's configuration. -/
def State.setGroupConfig (s : State) (g : Nat) (c : GroupConfig) : State :=
  { s with tables := { s.tables with groups := s.tables.groups.set {} g c } }

/-- Is the station one a group may have (R6)? -/
def State.stationGood (s : State) (g station : Nat) : Bool :=
  decide (1 ≤ station) && decide (station ≤ 126) && decide (station ≠ s.settings.ownStation) &&
    decide (station ≠ s.settings.headEnd) && !s.stationTaken g station

/-- Is a group number one of the six? -/
def groupGood (g : Nat) : Bool := decide (1 ≤ g) && decide (g ≤ 6)

/-- A WRITE to the Group Table (R6). -/
def handleWriteGroup (p : List Byte) (s : State) : Reply :=
  s.checkChange p 29
    (s.checkIndex (groupGood (requestIndex p))
      (s.checkField (s.stationGood (requestIndex p) (numAt p 10 1))
        ((s.setGroupConfig (requestIndex p) (groupAt p)).acceptWith
          (clamps 1 16 (numAt p 27 1) || clamps 1 32 (numAt p 28 1)) (groupBytes (groupAt p)))))

/-- WRITE_GROUP. -/
def execWriteGroup (s : State) : Host.Outcome State Fault Refusal :=
  .next (s.serve (isTableOp opWrite tabGroup) handleWriteGroup)

/-- Has a group calls in hand, or an ASSIGNED or AWAITING_TRANSFER trip that holds a tag of it (R8)? -/
def State.groupBusy (s : State) (g : Nat) : Bool :=
  !(s.group g).queue.isEmpty || !(s.group g).outstanding.isEmpty ||
    s.trips.any (fun t => t.settled && decide (t.group = g))

/-- The group with its configuration at its reset contents, IN_SERVICE with streak 0 (R8). -/
def State.clearGroup (s : State) (g : Nat) : State :=
  (s.setGroupConfig g {}).setGroup g { s.group g with service := .inService, streak := 0 }

/-- An ERASE of a Group Table entry (R8). -/
def handleEraseGroup (p : List Byte) (s : State) : Reply :=
  s.checkChange p 10
    (s.checkIndex (groupGood (requestIndex p))
      (if s.groupBusy (requestIndex p) then s.refuse .busy
        else (s.clearGroup (requestIndex p)).accept))

/-- ERASE_GROUP. -/
def execEraseGroup (s : State) : Host.Outcome State Fault Refusal :=
  .next (s.serve (isTableOp opErase tabGroup) handleEraseGroup)

/-! ## The Sky Lobby List (R13) -/

/-- Write a Sky Lobby List slot. -/
def State.setSkyLobby (s : State) (i : Nat) (v : Option Nat) : State :=
  { s with tables := { s.tables with skyLobbies := s.tables.skyLobbies.set none i v } }

/-- A WRITE to the Sky Lobby List (R13). -/
def handleWriteSkyLobby (p : List Byte) (s : State) : Reply :=
  s.checkChange p 11
    (s.checkIndex (requestIndex p ≤ 3)
      (s.checkField (numAt p 10 1 ≤ 127)
        ((s.setSkyLobby (requestIndex p) (some (numAt p 10 1))).acceptWith false
          (bytesOfNat 1 (numAt p 10 1)))))

/-- WRITE_SKY_LOBBY. -/
def execWriteSkyLobby (s : State) : Host.Outcome State Fault Refusal :=
  .next (s.serve (isTableOp opWrite tabSkyLobby) handleWriteSkyLobby)

/-- An ERASE of a Sky Lobby List slot (R13). -/
def handleEraseSkyLobby (p : List Byte) (s : State) : Reply :=
  s.checkChange p 10
    (s.checkIndex (requestIndex p ≤ 3) (s.setSkyLobby (requestIndex p) none).accept)

/-- ERASE_SKY_LOBBY. -/
def execEraseSkyLobby (s : State) : Host.Outcome State Fault Refusal :=
  .next (s.serve (isTableOp opErase tabSkyLobby) handleEraseSkyLobby)

/-! ## The Terminal Table (R60, R61) -/

/-- The binding that a code names (12.4). -/
def bindingOf (code : Nat) : Binding := if code = 0 then .routed else .fixed code

/-- The terminal configuration a WRITE makes (R60). -/
def terminalAt (p : List Byte) : TerminalConfig :=
  ⟨true, numAt p 10 1, numAt p 11 1, bindingOf (numAt p 12 1)⟩

/-- Write a terminal's configuration. -/
def State.setTerminalConfig (s : State) (t : Nat) (c : TerminalConfig) : State :=
  { s with tables := { s.tables with terminals := s.tables.terminals.set {} t c } }

/-- Store a terminal's configuration; a record that was unconfigured takes the dynamic values of R59
(R60). -/
def State.configureTerminal (s : State) (t : Nat) (c : TerminalConfig) : State :=
  if (s.terminalConfig t).configured then s.setTerminalConfig t c
  else (s.setTerminalConfig t c).setTerminal t {}

/-- Is a station one of the 64? -/
def stationOk (t : Nat) : Bool := decide (1 ≤ t) && decide (t ≤ 64)

/-- A WRITE to the Terminal Table (R60). -/
def handleWriteTerminal (p : List Byte) (s : State) : Reply :=
  s.checkChange p 13
    (s.checkIndex (stationOk (requestIndex p))
      (s.checkField (decide (numAt p 10 1 ≤ 127) && decide (numAt p 11 1 ≤ 7) &&
          decide (numAt p 12 1 ≤ 6))
        ((s.configureTerminal (requestIndex p) (terminalAt p)).acceptWith false
          (terminalBytes (terminalAt p)))))

/-- WRITE_TERMINAL. -/
def execWriteTerminal (s : State) : Host.Outcome State Fault Refusal :=
  .next (s.serve (isTableOp opWrite tabTerminal) handleWriteTerminal)

/-- The polled station's record has become unconfigured since its poll (R65; assumption log 16). -/
def Exchange.lost (x : Exchange) (t : Nat) : Exchange :=
  if x.station = t then { x with stale := true } else x

/-- Erase a terminal: configuration and dynamic part take their reset contents; an unconfigured record is
left as it is (R61). -/
def State.eraseTerminal (s : State) (t : Nat) : State :=
  if (s.terminalConfig t).configured then
    { (s.setTerminalConfig t {}).setTerminal t {} with
      exchange := s.exchange.map (fun x => x.lost t) }
  else s

/-- An ERASE of a terminal, refused BUSY while it is AWAITING (R61). -/
def handleEraseTerminal (p : List Byte) (s : State) : Reply :=
  s.checkChange p 10
    (s.checkIndex (stationOk (requestIndex p))
      (if (s.terminal (requestIndex p)).service.pendingTrip.isSome then s.refuse .busy
        else (s.eraseTerminal (requestIndex p)).accept))

/-- ERASE_TERMINAL. -/
def execEraseTerminal (s : State) : Host.Outcome State Fault Refusal :=
  .next (s.serve (isTableOp opErase tabTerminal) handleEraseTerminal)

/-! ## The Format Table (R68) -/

/-- The format a WRITE carries. -/
def formatAt (p : List Byte) : Format :=
  ⟨numAt p 10 1, numAt p 11 1, numAt p 12 1, numAt p 13 1, numAt p 14 1, decide (numAt p 15 1 = 1)⟩

/-- Does a field of a SPLIT format keep clear of bit 0 and bit n - 1 (R68)? -/
def clearOfParity (n start length : Nat) : Bool :=
  decide (length = 0) || (decide (1 ≤ start) && decide (start + length ≤ n - 1))

/-- Is a format one the part accepts (R68; starts above 63, assumption log 15)? -/
def Format.good (f : Format) : Bool :=
  decide (26 ≤ f.length) && decide (f.length ≤ 64) && decide (f.facilityLength ≤ 16) &&
    decide (1 ≤ f.cardLength) && decide (f.cardLength ≤ 32) &&
    decide (f.facilityStart ≤ 63) && decide (f.cardStart ≤ 63) &&
    decide (f.facilityStart + f.facilityLength ≤ f.length) &&
    decide (f.cardStart + f.cardLength ≤ f.length) &&
    (!f.split || (clearOfParity f.length f.facilityStart f.facilityLength &&
      clearOfParity f.length f.cardStart f.cardLength))

/-- Write a Format Table entry. -/
def State.setFormat (s : State) (i : Nat) (f : Format) : State :=
  { s with tables := { s.tables with formats := s.tables.formats.set {} i f } }

/-- A WRITE to the Format Table (R68); a parity code above 1 is BAD_FIELD (R193). -/
def handleWriteFormat (p : List Byte) (s : State) : Reply :=
  s.checkChange p 16
    (s.checkIndex (requestIndex p ≤ 7)
      (s.checkField (decide (numAt p 15 1 ≤ 1) && (formatAt p).good)
        ((s.setFormat (requestIndex p) (formatAt p)).acceptWith false
          (formatBytes (formatAt p)))))

/-- WRITE_FORMAT. -/
def execWriteFormat (s : State) : Host.Outcome State Fault Refusal :=
  .next (s.serve (isTableOp opWrite tabFormat) handleWriteFormat)

/-- An ERASE of a Format Table entry (R68). -/
def handleEraseFormat (p : List Byte) (s : State) : Reply :=
  s.checkChange p 10
    (s.checkIndex (requestIndex p ≤ 7) (s.setFormat (requestIndex p) {}).accept)

/-- ERASE_FORMAT. -/
def execEraseFormat (s : State) : Host.Outcome State Fault Refusal :=
  .next (s.serve (isTableOp opErase tabFormat) handleEraseFormat)

/-! ## The Facility Ranges (R71) -/

/-- The range a WRITE carries (12.4). -/
def facilityAt (p : List Byte) : FacilityRange := ⟨numAt p 10 2, numAt p 12 3⟩

/-- Write a Facility Range slot. -/
def State.setFacility (s : State) (i : Nat) (v : Option FacilityRange) : State :=
  { s with tables := { s.tables with facilities := s.tables.facilities.set none i v } }

/-- A WRITE to the Facility Ranges (R71). -/
def handleWriteFacilityRange (p : List Byte) (s : State) : Reply :=
  s.checkChange p 15
    (s.checkIndex (requestIndex p ≤ 3)
      (s.checkField (decide (1 ≤ numAt p 12 3) && decide (numAt p 12 3 ≤ 65536))
        ((s.setFacility (requestIndex p) (some (facilityAt p))).acceptWith false
          (facilityBytes (facilityAt p)))))

/-- WRITE_FACILITY_RANGE. -/
def execWriteFacilityRange (s : State) : Host.Outcome State Fault Refusal :=
  .next (s.serve (isTableOp opWrite tabFacility) handleWriteFacilityRange)

/-- An ERASE of a Facility Range slot (R71). -/
def handleEraseFacilityRange (p : List Byte) (s : State) : Reply :=
  s.checkChange p 10
    (s.checkIndex (requestIndex p ≤ 3) (s.setFacility (requestIndex p) none).accept)

/-- ERASE_FACILITY_RANGE. -/
def execEraseFacilityRange (s : State) : Host.Outcome State Fault Refusal :=
  .next (s.serve (isTableOp opErase tabFacility) handleEraseFacilityRange)

/-! ## The alarm line table (R145, R151, R152) -/

/-- The action that a code names (12.4). -/
def actionOf : Nat → AlarmAction
  | 0 => .notify
  | 1 => .lockZones
  | _ => .recall

/-- The line configuration a WRITE carries, its debounce code clamped (R145). -/
def lineAt (p : List Byte) : LineConfig :=
  ⟨decide (numAt p 10 1 = 1), decide (numAt p 11 1 = 1), min 3 (numAt p 12 1),
    decide (numAt p 13 1 = 1), actionOf (numAt p 14 1), zoneSetAt p 15⟩

/-- A change of a line's trigger meets its line state: LEVEL to EDGE, an ACTIVE line becomes LATCHED; EDGE
to LEVEL, the line follows its activeness (R151). The events are those of R151. -/
def State.applyTrigger (s : State) (k : Nat) (edge : Bool) : State :=
  let c := s.lineConfig k
  let l := s.line k
  if c.edge = edge then s
  else
    let s1 := s.setLineConfig k { c with edge := edge }
    if edge then
      if l.status = .active then s1.setLine k { l with status := .latched } else s1
    else if lineActive c l then
      let s2 := s1.setLine k { l with status := .active }
      if l.status = .normal then s2.raiseLine c .alarmRaised else s2
    else
      let s2 := s1.setLine k { l with status := .normal }
      if l.status = .normal then s2 else s2.raiseLine c .alarmCleared

/-- A change of a line's polarity: activeness is read anew from the kept accepted level (R151). -/
def State.applyPolarity (s : State) (k : Nat) (activeLow : Bool) : State :=
  let c := s.lineConfig k
  (s.setLineConfig k { c with activeLow := activeLow }).followActive k (lineActive c (s.line k))

/-- Apply a line configuration at once: the mask and the plain fields are stored first, then the trigger is
applied under the old polarity, then the polarity, and the building mode is formed anew (R145, R151,
R152), the lines' events before the mode's (DEDUCED, unsafe: assumption log 43). -/
def State.applyLine (s : State) (k : Nat) (c : LineConfig) : State :=
  let old := s.lineConfig k
  ((((s.setLineConfig k { c with edge := old.edge, activeLow := old.activeLow }).applyTrigger k
    c.edge).applyPolarity k c.activeLow).formMode)

/-- Are the coded fields of an alarm line WRITE codes that 12.4 defines (R193)? -/
def lineFieldsGood (p : List Byte) : Bool :=
  decide (numAt p 10 1 ≤ 1) && decide (numAt p 11 1 ≤ 1) && decide (numAt p 13 1 ≤ 1) &&
    decide (numAt p 14 1 ≤ 2)

/-- A WRITE to the alarm line table (R145). -/
def handleWriteAlarmLine (p : List Byte) (s : State) : Reply :=
  s.checkChange p 17
    (s.checkIndex (requestIndex p ≤ 7)
      (s.checkField (lineFieldsGood p)
        ((s.applyLine (requestIndex p) (lineAt p)).acceptWith (decide (3 < numAt p 12 1))
          (lineBytes (lineAt p)))))

/-- WRITE_ALARM_LINE. -/
def execWriteAlarmLine (s : State) : Host.Outcome State Fault Refusal :=
  .next (s.serve (isTableOp opWrite tabAlarmLine) handleWriteAlarmLine)

/-- An ERASE of an alarm line (R145). -/
def handleEraseAlarmLine (p : List Byte) (s : State) : Reply :=
  s.checkChange p 10
    (s.checkIndex (requestIndex p ≤ 7) (s.applyLine (requestIndex p) {}).accept)

/-- ERASE_ALARM_LINE. -/
def execEraseAlarmLine (s : State) : Host.Outcome State Fault Refusal :=
  .next (s.serve (isTableOp opErase tabAlarmLine) handleEraseAlarmLine)

/-! ## The Settings record (R1, R53, R57, R80, R113, R167, R179) -/

/-- Bytes of a Settings item's fixed fields, by its row (12.4); a relay set's is its count. An item above 15,
which has no layout, is taken to have one byte (assumption log 39). -/
def settingSize : Nat → Nat
  | 4 => 4
  | 11 => 2
  | 13 => 3
  | _ => 1

/-- May the number be the own or the head-end station beside the other one (R6, R179)? -/
def State.settingStationGood (s : State) (n other : Nat) : Bool :=
  decide (1 ≤ n) && decide (n ≤ 126) && decide (n ≠ other) && (s.groupOfStation n).isNone

/-- The relay set a WRITE carries: none when the count exceeds 16, kinds are missing, or a kind is a handled
one; a kind carried twice is stored once (R167; assumption log 13, 14). -/
def relaySetAt (p : List Byte) : Option (List Byte) :=
  let n := numAt p 10 1
  let kinds := (p.drop 11).take n
  if 16 < n || decide (kinds.length < n) || kinds.any (fun k => handledKinds.contains k.toNat) then
    none
  else some kinds.eraseDups

/-- The Settings record after a WRITE of an item and whether its value was clamped; none for BAD_FIELD
(R176, R179). -/
def State.newSettings (s : State) (item : Nat) (p : List Byte) : Option (Settings × Bool) :=
  let c := s.settings
  let n := numAt p 10 1
  match item with
  | 0 => if s.settingStationGood n c.headEnd then some ({ c with ownStation := n }, false) else none
  | 1 => if s.settingStationGood n c.ownStation then some ({ c with headEnd := n }, false) else none
  | 2 => some ({ c with landingCount := clamp 2 128 n }, clamps 2 128 n)
  | 3 => if n ≤ 6 then some ({ c with epochWeekday := n }, false) else none
  | 4 =>
    if numAt p 10 2 < 1440 then
      some ({ c with nightStart := numAt p 10 2, nightLength := clamp 0 1440 (numAt p 12 2) },
        clamps 0 1440 (numAt p 12 2))
    else none
  | 5 => some ({ c with threshold := clamp 2 15 n }, clamps 2 15 n)
  | 6 => some ({ c with decayCode := clamp 0 3 n }, clamps 0 3 n)
  | 7 => some ({ c with latchLimit := clamp 1 7 n }, clamps 1 7 n)
  | 8 => some ({ c with holdIndex := clamp 0 15 n }, clamps 0 15 n)
  | 9 => if n ≤ 1 then some ({ c with extendedHold := decide (n = 1) }, false) else none
  | 10 => some ({ c with repeatGuard := clamp 0 60 n }, clamps 0 60 n)
  | 11 =>
    some ({ c with transferWindow := clamp 30 900 (numAt p 10 2) }, clamps 30 900 (numAt p 10 2))
  | 12 => if n ≤ 1 then some ({ c with reporting := decide (n = 1) }, false) else none
  | 13 =>
    if (eventSetAt p 10).toNat % 16 = 0 then some ({ c with enables := eventSetAt p 10 }, false)
    else none
  | 14 => (relaySetAt p).map (fun ks => ({ c with gToT := ks }, false))
  | 15 => (relaySetAt p).map (fun ks => ({ c with tToG := ks }, false))
  | _ => none

/-- Replace the Settings record. -/
def State.setSettings (s : State) (c : Settings) : State :=
  { s with tables := { s.tables with settings := c } }

/-- A WRITE to the Settings record (R179). -/
def handleWriteSettings (p : List Byte) (s : State) : Reply :=
  s.checkChange p (10 + settingSize (requestIndex p))
    (s.checkIndex (requestIndex p ≤ 15)
      (match s.newSettings (requestIndex p) p with
      | none => s.refuse .badField
      | some (c, clamped) =>
        (s.setSettings c).acceptWith clamped (settingBytes c (requestIndex p))))

/-- WRITE_SETTINGS. -/
def execWriteSettings (s : State) : Host.Outcome State Fault Refusal :=
  .next (s.serve (isTableOp opWrite tabSettings) handleWriteSettings)

end Sys2Proof.Machine
end

