-- ==== Sys2Proof/Machine/Commands.lean ====
section
/-! DEFINITION. The operating commands of the head-end: banks, save and start-up, clock, site code, terminals, lines, zones, groups, recall and events (10; 12.4). -/

namespace Sys2Proof.Machine

/-! ## Banks (R40, R41) -/

/-- The active and standby banks exchange roles (R40). -/
def handleSwitchBanks (p : List Byte) (s : State) : Reply :=
  s.checkChange p 6 ({ s with activeBank := s.activeBank.other } : State).accept

/-- SWITCH_BANKS. -/
def execSwitchBanks (s : State) : Host.Outcome State Fault Refusal :=
  .next (s.serve (isOp opSwitchBanks) handleSwitchBanks)

/-- The whole active bank is copied over the standby bank (R41). -/
def handleCopyActiveToStandby (p : List Byte) (s : State) : Reply :=
  s.checkChange p 6 (s.setStandby s.active).accept

/-- COPY_ACTIVE_TO_STANDBY. -/
def execCopyActiveToStandby (s : State) : Host.Outcome State Fault Refusal :=
  .next (s.serve (isOp opCopyActiveToStandby) handleCopyActiveToStandby)

/-! ## Save, restart, start (R173, R188, R191) -/

/-- The snapshot a save captures: the tables, the active bank as the image's first policy bank and the
standby bank as its second (R42, R188). -/
def State.snapshot (s : State) : Tables := { s.tables with bankA := s.active, bankB := s.standby }

/-- The store becomes SAVING, the tables are captured and the first step begins (R188). -/
def handleSaveImage (p : List Byte) (s : State) : Reply :=
  s.checkChange p 6 ({ s with saving := some ⟨.clearMark, s.snapshot⟩ } : State).accept

/-- SAVE_IMAGE. -/
def execSaveImage (s : State) : Host.Outcome State Fault Refusal :=
  .next (s.serve (isOp opSaveImage) handleSaveImage)

/-- RESTART is answered OK; the restart waits for its MRSP to be sent, and the Agent takes no further
request (R173). -/
def handleRestart (p : List Byte) (s : State) : Reply :=
  s.checkCommand p 6 ({ s with restart := .answered } : State).accept

/-- RESTART. -/
def execRestart (s : State) : Host.Outcome State Fault Refusal :=
  .next (s.serve (isOp opRestart) handleRestart)

/-- An UNCONFIGURED part becomes RUNNING (R191). -/
def handleStartService (p : List Byte) (s : State) : Reply :=
  s.checkCommand p 6
    (if s.partState = .unconfigured then ({ s with partState := .running } : State).accept
      else s.accept)

/-- START_SERVICE. -/
def execStartService (s : State) : Host.Outcome State Fault Refusal :=
  .next (s.serve (isOp opStartService) handleStartService)

/-! ## Clock and site code (R50, R178) -/

/-- The Week Clock takes the given reading and becomes SET; a minute of 1,440 or more or a second of 60 or
more is BAD_FIELD (R50). -/
def handleSetTime (p : List Byte) (s : State) : Reply :=
  s.checkCommand p 11
    (s.checkField (decide (numAt p 8 2 < 1440) && decide (numAt p 10 1 < 60))
      ({ s with clock := ⟨numAt p 6 2, numAt p 8 2, numAt p 10 1, true⟩ } : State).accept)

/-- SET_TIME. -/
def execSetTime (s : State) : Host.Outcome State Fault Refusal :=
  .next (s.serve (isOp opSetTime) handleSetTime)

/-- A BLANK or SET site code record takes the new code and the state SET; a LOCKED one refuses (R178). -/
def handleSetSiteCode (p : List Byte) (s : State) : Reply :=
  s.checkCommand p 10
    (if s.siteCode.state = .locked then s.refuse .locked
      else ({ s with siteCode := ⟨BitVec.ofNat 32 (numAt p 6 4), .set⟩ } : State).accept)

/-- SET_SITE_CODE. -/
def execSetSiteCode (s : State) : Host.Outcome State Fault Refusal :=
  .next (s.serve (isOp opSetSiteCode) handleSetSiteCode)

/-! ## Terminals, lines, zones (R79, R150, R153) -/

/-- The station, line or group a command names (12.4). -/
def named (p : List Byte) : Nat := numAt p operandAt 1

/-- A terminal released: tally and hold count 0, timers stopped, HELD and LATCHED become IDLE (R79). -/
def TerminalState.freed (t : TerminalState) : TerminalState :=
  { t with
    tally := 0, decay := none, holds := 0
    service := match t.service with
      | .held _ | .latched => .idle
      | .idle => .idle
      | .awaiting n => .awaiting n }

/-- A terminal's tally and hold count are cleared, and a HELD or LATCHED terminal becomes IDLE (R79). -/
def handleReleaseTerminal (p : List Byte) (s : State) : Reply :=
  s.checkCommand p 7
    (s.checkIndex (stationOk (named p))
      (s.setTerminal (named p) (s.terminal (named p)).freed).accept)

/-- RELEASE_TERMINAL. -/
def execReleaseTerminal (s : State) : Host.Outcome State Fault Refusal :=
  .next (s.serve (isOp opReleaseTerminal) handleReleaseTerminal)

/-- A LATCHED line that is not active returns to NORMAL with ALARM_CLEARED when unmasked, and the building
mode is formed anew (R150), the line's event before the mode's (DEDUCED, unsafe: assumption log 43). -/
def State.unlatch (s : State) (k : Nat) : State :=
  ((s.setLine k { s.line k with status := .normal }).raiseLine (s.lineConfig k)
    .alarmCleared).formMode

/-- Acknowledge a line: a LATCHED line that is active refuses STILL_ACTIVE (R150). -/
def handleAckLine (p : List Byte) (s : State) : Reply :=
  s.checkCommand p 7
    (s.checkIndex (named p ≤ 7)
      (if (s.line (named p)).status = .latched then
        if lineActive (s.lineConfig (named p)) (s.line (named p)) then s.refuse .stillActive
        else (s.unlatch (named p)).accept
      else s.accept))

/-- ACK_LINE. -/
def execAckLine (s : State) : Host.Outcome State Fault Refusal :=
  .next (s.serve (isOp opAckLine) handleAckLine)

/-- The zones carried are added to the management lock set (R153). -/
def handleLockZones (p : List Byte) (s : State) : Reply :=
  s.checkCommand p 8
    ({ s with lockSet := s.lockSet ||| zoneSetAt p operandAt } : State).accept

/-- LOCK_ZONES. -/
def execLockZones (s : State) : Host.Outcome State Fault Refusal :=
  .next (s.serve (isOp opLockZones) handleLockZones)

/-- The zones carried are removed from the management lock set (R153). -/
def handleUnlockZones (p : List Byte) (s : State) : Reply :=
  s.checkCommand p 8
    ({ s with lockSet := s.lockSet &&& ~~~(zoneSetAt p operandAt) } : State).accept

/-- UNLOCK_ZONES. -/
def execUnlockZones (s : State) : Host.Outcome State Fault Refusal :=
  .next (s.serve (isOp opUnlockZones) handleUnlockZones)

/-! ## Groups, recall, events (R11, R12, R155, R183) -/

/-- A group becomes HELD and its queued calls are withdrawn; in HELD nothing changes (R11). -/
def State.holdGroup (s : State) (g : Nat) : State :=
  if (s.group g).service = .held then s
  else (s.setGroup g { s.group g with service := .held }).withdrawQueue g

/-- Hold a group (R11). -/
def handleHoldGroup (p : List Byte) (s : State) : Reply :=
  s.checkCommand p 7 (s.checkIndex (groupGood (named p)) (s.holdGroup (named p)).accept)

/-- HOLD_GROUP. -/
def execHoldGroup (s : State) : Host.Outcome State Fault Refusal :=
  .next (s.serve (isOp opHoldGroup) handleHoldGroup)

/-- A HELD or SILENT group becomes IN_SERVICE with streak 0; in IN_SERVICE nothing changes (R12). -/
def State.resumeGroup (s : State) (g : Nat) : State :=
  if (s.group g).service = .inService then s
  else s.setGroup g { s.group g with service := .inService, streak := 0 }

/-- Resume a group (R12). -/
def handleResumeGroup (p : List Byte) (s : State) : Reply :=
  s.checkCommand p 7 (s.checkIndex (groupGood (named p)) (s.resumeGroup (named p)).accept)

/-- RESUME_GROUP. -/
def execResumeGroup (s : State) : Host.Outcome State Fault Refusal :=
  .next (s.serve (isOp opResumeGroup) handleResumeGroup)

/-- The management recall flag is set and the building mode formed anew (R155). -/
def handleEnterRecall (p : List Byte) (s : State) : Reply :=
  s.checkCommand p 6 ({ s with recallFlag := true } : State).formMode.accept

/-- ENTER_RECALL. -/
def execEnterRecall (s : State) : Host.Outcome State Fault Refusal :=
  .next (s.serve (isOp opEnterRecall) handleEnterRecall)

/-- The management recall flag is cleared and the building mode formed anew (R155). -/
def handleLeaveRecall (p : List Byte) (s : State) : Reply :=
  s.checkCommand p 6 ({ s with recallFlag := false } : State).formMode.accept

/-- LEAVE_RECALL. -/
def execLeaveRecall (s : State) : Host.Outcome State Fault Refusal :=
  .next (s.serve (isOp opLeaveRecall) handleLeaveRecall)

/-- The named kinds have their status cleared and their counts set to 0; a bit for a kind 20 to 23 is
BAD_FIELD (R183, R193). -/
def handleClearEvents (p : List Byte) (s : State) : Reply :=
  s.checkCommand p 9
    (s.checkField ((eventSetAt p operandAt).toNat % 16 = 0)
      ({ s with events := clearKinds (eventSetAt p operandAt) s.events } : State).accept)

/-- CLEAR_EVENTS. -/
def execClearEvents (s : State) : Host.Outcome State Fault Refusal :=
  .next (s.serve (isOp opClearEvents) handleClearEvents)

end Sys2Proof.Machine
end

