-- ==== Sys2Proof/Machine/ImageStore.lean ====
section
/-! DEFINITION. The four steps of a save (11_image_store_and_start_up.md, section 11.2). -/

namespace Sys2Proof.Machine

/-- The save in progress, when it is at the given step. -/
def State.savingAt (s : State) (st : SaveStep) : Option SaveJob :=
  s.saving.filter (fun j => decide (j.step = st))

/-- The save ends in failure: the image is INVALID, the store IDLE, and SAVE_FAILED is raised (R188). -/
def State.failSave (s : State) : State :=
  ({ s with saving := none, image := none } : State).raise .saveFailed

/-- SAVE_MARK_CLEARED: the first step ends; the completion mark is cleared, so the image is INVALID, or
the mark did not clear and the save fails (R188). -/
def execSaveMarkCleared (verified : Bool) (s : State) : Host.Outcome State Fault Refusal :=
  .next (
    match s.savingAt .clearMark with
    | none => s
    | some j =>
      if verified then { s with image := none, saving := some { j with step := .eraseSectors } }
      else s.failSave)

/-- SAVE_SECTORS_ERASED: the second step ends; the sectors are erased, or a location did not erase
(R188). -/
def execSaveSectorsErased (verified : Bool) (s : State) : Host.Outcome State Fault Refusal :=
  .next (
    match s.savingAt .eraseSectors with
    | none => s
    | some j =>
      if verified then { s with saving := some { j with step := .programTables } } else s.failSave)

/-- SAVE_TABLES_PROGRAMMED: the third step ends; the captured tables are programmed and verified, or a
location did not program (R188). -/
def execSaveTablesProgrammed (verified : Bool) (s : State) : Host.Outcome State Fault Refusal :=
  .next (
    match s.savingAt .programTables with
    | none => s
    | some j =>
      if verified then { s with saving := some { j with step := .writeMark } } else s.failSave)

/-- The image sequence that follows, 65,535 being followed by 0 (R188). -/
def nextSequence (n : Nat) : Nat := (n + 1) % 65536

/-- SAVE_MARK_WRITTEN: the fourth step ends; the mark carries the held sequence plus one, the image is
VALID, the store IDLE and SAVE_DONE is raised, or the mark did not program (R188). -/
def execSaveMarkWritten (verified : Bool) (s : State) : Host.Outcome State Fault Refusal :=
  .next (
    match s.savingAt .writeMark with
    | none => s
    | some j =>
      if verified then
        ({ s with
          image := some ⟨nextSequence s.imageSequence, j.snapshot⟩
          imageSequence := nextSequence s.imageSequence
          saving := none } : State).raise .saveDone
      else s.failSave)

end Sys2Proof.Machine
end

