-- ==== Sys2Proof/Machine/ReadRequests.lean ====
section
/-! DEFINITION. READ, FIND and READ_STATUS: the requests that carry no site code and change nothing (10, sections 10.1 and 10.4; 12.4). -/

namespace Sys2Proof.Machine

/-- The bank a policy READ names (R39, 12.4). -/
def bankNamed (p : List Byte) : Option BankName :=
  match requestBank p with
  | 0 => some .a
  | 1 => some .b
  | _ => none

/-- Read a record of a policy table: the index, then the bank byte, then the record (R39, R175). -/
def State.readPolicy (s : State) (p : List Byte) (size : Nat) (record : PolicyBank → Nat → List Byte) :
    Reply :=
  s.checkIndex (requestIndex p < size)
    (match bankNamed p with
    | none => s.refuse .badField
    | some name => s.acceptWith false (record (s.bank name) (requestIndex p)))

/-- Read a record of a table that is not banked. -/
def State.readTable (s : State) (p : List Byte) (lo hi : Nat) (record : Nat → List Byte) : Reply :=
  s.checkIndex (decide (lo ≤ requestIndex p) && decide (requestIndex p ≤ hi))
    (s.acceptWith false (record (requestIndex p)))

/-- A way of the Credential Table, or the empty mark (R27). The value bytes of absent fields use readings of
the model's counter (assumption log 10). -/
def State.readWay (s : State) (p : List Byte) : Reply :=
  s.checkIndex (requestIndex p ≤ 16383)
    (match s.way (requestIndex p) with
    | none => s.acceptWith false absentMark
    | some e =>
      ({ s with freeCount := s.freeCount + badgeFree } : State).acceptWith false
        (badgeBytes e s.freeCount))

/-- A terminal's configuration, then its dynamic part (R61; DEDUCED, unsafe: assumption log 9). -/
def State.terminalRecord (s : State) (t : Nat) : List Byte :=
  [boolByte (s.terminalConfig t).configured] ++ terminalBytes (s.terminalConfig t) ++
    terminalStateBytes (s.terminal t)

/-- A group's configuration, then its service state and its streak (R7). DEDUCED, unsafe: that order, which no
table gives, is that of R7's sentence (assumption log 9). -/
def State.groupRecord (s : State) (g : Nat) : List Byte :=
  groupBytes (s.groupConfig g) ++ [byteOf (s.group g).service.code, byteOf (s.group g).streak]

/-- An alarm line's configuration, then its accepted level, whether its debounce timer runs, its line state and
whether it is in force (R145). DEDUCED, unsafe: that order, which no table gives, is that of R145's sentence
(assumption log 9). -/
def State.lineRecord (s : State) (k : Nat) : List Byte :=
  lineBytes (s.lineConfig k) ++
    [byteOf (levelCode (s.line k).accepted), boolByte (s.line k).timer.isSome,
      byteOf (s.line k).status.code, boolByte (lineInForce (s.lineConfig k) (s.line k))]

/-- The building record, in the order of R159 (DEDUCED, unsafe: assumption log 9). -/
def State.buildingRecord (s : State) : List Byte :=
  zoneSetBytes s.lockSet ++ [boolByte s.recallFlag, byteOf s.mode.code] ++ zoneSetBytes s.zoneLocks

/-- A position of the Trip List, or the empty mark (R125). -/
def State.tripRecord (s : State) (i : Nat) : List Byte :=
  match s.trips[i]? with
  | none => absentMark
  | some t => tripBytes s.now t

/-- READ: the index, then for a policy table the bank, then the record (R174, R175). The building record has
no index (R159, R175); that the two index bytes, which 12.4 gives every READ, are then ignored and never
answered BAD_INDEX is a DESIGN CHOICE (assumption log 42), unsafe. -/
def handleRead (p : List Byte) (s : State) : Reply :=
  s.checkLength p 10
    (match requestTable p with
    | 1 => s.readWay p
    | 2 => s.readPolicy p 1024 (fun b i => ((b.profiles.get none i).map bandBytes).getD absentMark)
    | 3 => s.readPolicy p 64 (fun b i => tenantBytes (b.tenants.get {} i))
    | 4 => s.readPolicy p 32
        (fun b i => ((b.holidays.get none i).map (bytesOfNat 2)).getD absentMark)
    | 5 => s.readPolicy p 128 (fun b i => landingBytes (b.landings.get {} i))
    | 6 => s.readTable p 1 6 s.groupRecord
    | 7 => s.readTable p 0 3
        (fun i => ((s.tables.skyLobbies.get none i).map (bytesOfNat 1)).getD absentMark)
    | 8 => s.readTable p 1 64 s.terminalRecord
    | 9 => s.readTable p 0 7 (fun i => formatBytes (s.tables.formats.get {} i))
    | 10 => s.readTable p 0 3
        (fun i => ((s.tables.facilities.get none i).map facilityBytes).getD absentMark)
    | 11 => s.readTable p 0 7 s.lineRecord
    | 12 => s.readTable p 0 15 (settingBytes s.settings)
    | 13 => s.readTable p 0 511 s.tripRecord
    | 14 => s.acceptWith false s.buildingRecord
    | _ => s.refuse .badTable)

/-- READ: the Agent takes a READ and returns the record, slot or item, or the empty or absent mark
(R174). -/
def execRead (s : State) : Host.Outcome State Fault Refusal :=
  .next (s.serve isRead handleRead)

/-- A key is looked up and its entry returned with its way index, or NOT_FOUND (R28). -/
def handleFind (p : List Byte) (s : State) : Reply :=
  s.checkLength p 16
    (match s.lookupWay (keyAt p recordAt) with
    | none => s.refuse .notFound
    | some w =>
      match s.way w with
      | none => s.refuse .notFound
      | some e =>
        ({ s with freeCount := s.freeCount + badgeFree } : State).acceptWith false
          (badgeBytes e s.freeCount ++ bytesOfNat 2 w))

/-- FIND (R28). -/
def execFind (s : State) : Host.Outcome State Fault Refusal :=
  .next (s.serve (isTableOp opFind tabCredential) handleFind)

/-- Part state code (12.4). -/
def PartState.code : PartState → Nat
  | .loading => 0 | .running => 1 | .unconfigured => 2

/-- Image state code: SAVING while a save is in progress, else VALID or INVALID (R187, 12.4). -/
def State.imageCode (s : State) : Nat :=
  if s.saving.isSome then 3 else if s.image.isSome then 1 else 2

/-- Active bank code (12.4). -/
def BankName.code : BankName → Nat
  | .a => 0 | .b => 1

/-- The status record (R180, 12.4). -/
def State.statusRecord (s : State) : List Byte :=
  [byteOf s.partState.code, byteOf s.imageCode] ++ bytesOfNat 2 s.imageSequence ++
    bytesOfNat 2 s.clock.day ++ bytesOfNat 2 s.clock.minute ++
    [byteOf s.clock.second, boolByte s.clock.isSet, byteOf s.activeBank.code] ++
    bytesOfNat 2 s.population ++ bytesOfNat 2 s.trips.length ++
    [byteOf s.siteCode.state.code] ++ s.statusBytes ++
    bytesOfNat 3 s.settings.enables.toNat ++ s.countBytes

/-- The status record is returned as it stands (R180). -/
def handleReadStatus (p : List Byte) (s : State) : Reply :=
  s.checkLength p 6 (s.acceptWith false s.statusRecord)

/-- READ_STATUS (R180). -/
def execReadStatus (s : State) : Host.Outcome State Fault Refusal :=
  .next (s.serve (isOp opReadStatus) handleReadStatus)

end Sys2Proof.Machine
end

