-- ==== Sys2Proof/Machine/Startup.lean ====
section
/-! DEFINITION. Resets, LOADING and the Week Clock's advance (11_image_store_and_start_up.md, sections 11.3 and 11.4; 03, section 3.5). -/

namespace Sys2Proof.Machine

/-- The tables and the part state as LOADING ends: loaded from a VALID image, else at their reset contents
(R190). -/
def State.loadTables (s : State) : State :=
  match s.image with
  | some i =>
    { s with
      tables := i.tables, population := i.tables.credentials.length
      imageSequence := i.sequence, partState := .running }
  | none =>
    { s with tables := {}, population := 0, imageSequence := 0, partState := .unconfigured }

/-- FULL_RESET: the part is held in full reset. The frames on the lines are cut off, the receptions in
progress are lost and a save ends where it stands (R161, R170, R189, R194). -/
def execFullReset (s : State) : Host.Outcome State Fault Refusal :=
  .next { s.endSave with
    resetHeld := true, tReceiver := .sync, gReceiver := .sync, tLine := none, gLine := none }

/-- The clock and the timers' time base as a full reset leaves them (R48, R194). -/
def State.zeroClock (s : State) : State :=
  { s with clock := {}, now := 0, nextSecond := 1000 }

/-- FULL_RESET_END: the clock is set to day 0 UNSET, every reset value is applied and LOADING begins
(R48, R190, R192). -/
def execFullResetEnd (s : State) : Host.Outcome State Fault Refusal :=
  .next (if s.resetHeld then { s.resetValues.zeroClock with resetHeld := false } else s)

/-- LOADING_END: the tables are loaded or take their reset contents, the part becomes RUNNING or
UNCONFIGURED, CLOCK_UNSET is raised while the clock is UNSET, and each line's first debounce timer starts
(R147, R184, R190). -/
def execLoadingEnd (s : State) : Host.Outcome State Fault Refusal :=
  .next (
    if !s.resetHeld && decide (s.partState = .loading) then
      let s1 := s.loadTables
      let s2 := if s1.clock.isSet then s1 else s1.raise .clockUnset
      lineNumbers.foldl State.startDebounce s2
    else s)

/-- RESTART_MADE: once the MRSP of the RESTART has been transmitted, the part resets without touching the
clock and enters LOADING (R173, R192). -/
def execRestartMade (s : State) : Host.Outcome State Fault Refusal :=
  .next (if !s.resetHeld && decide (s.restart = .transmitted) then s.resetValues else s)

/-- One advance of the Week Clock (R49). -/
def WeekClock.advance (c : WeekClock) : WeekClock :=
  if c.second < 59 then { c with second := c.second + 1 }
  else if c.minute < 1439 then { c with second := 0, minute := c.minute + 1 }
  else { c with second := 0, minute := 0, day := if c.day < 65535 then c.day + 1 else c.day }

/-- CLOCK_ADVANCE: the second has come and the Week Clock advances (R49). -/
def execClockAdvance (s : State) : Host.Outcome State Fault Refusal :=
  .next (
    if s.resetHeld then s
    else { s.reach s.nextSecond with
      clock := s.clock.advance, nextSecond := s.nextSecond + 1000 })

end Sys2Proof.Machine
end

