-- ==== Sys2Proof/Machine/Dispatch.lean ====
section
/-! DEFINITION. The dispatch of the commands: one arm per constructor of Instr, each one direct call of that command's own meaning. -/

namespace Sys2Proof.Machine

/-- The effect of a command on everything but the queue of waiting commands. -/
def exec (i : Instr) (s : State) : Host.Outcome State Fault Refusal :=
  match i with
  | .fullReset => Sys2Proof.Machine.execFullReset s
  | .fullResetEnd => Sys2Proof.Machine.execFullResetEnd s
  | .loadingEnd => Sys2Proof.Machine.execLoadingEnd s
  | .clockAdvance => Sys2Proof.Machine.execClockAdvance s
  | .sendPoll => Sys2Proof.Machine.execSendPoll s
  | .replyTimeExpiry => Sys2Proof.Machine.execReplyTimeExpiry s
  | .pollReply r => Sys2Proof.Machine.execPollReply r s
  | .presentReply r => Sys2Proof.Machine.execPresentReply r s
  | .decayExpiry station => Sys2Proof.Machine.execDecayExpiry station s
  | .holdExpiry station => Sys2Proof.Machine.execHoldExpiry station s
  | .sendAnswer => Sys2Proof.Machine.execSendAnswer s
  | .sendGToTRelay => Sys2Proof.Machine.execSendGToTRelay s
  | .receptionEnd port r => Sys2Proof.Machine.execReceptionEnd port r s
  | .receiveMreq r => Sys2Proof.Machine.execReceiveMreq r s
  | .receiveGToTRelay r => Sys2Proof.Machine.execReceiveGToTRelay r s
  | .receiveAssign r => Sys2Proof.Machine.execReceiveAssign r s
  | .receiveDecline r => Sys2Proof.Machine.execReceiveDecline r s
  | .answerTimeout group tag => Sys2Proof.Machine.execAnswerTimeout group tag s
  | .repeatGuardExpiry trip => Sys2Proof.Machine.execRepeatGuardExpiry trip s
  | .transferWindowExpiry trip => Sys2Proof.Machine.execTransferWindowExpiry trip s
  | .sendCancel => Sys2Proof.Machine.execSendCancel s
  | .sendCall => Sys2Proof.Machine.execSendCall s
  | .sendMrsp => Sys2Proof.Machine.execSendMrsp s
  | .sendNotice => Sys2Proof.Machine.execSendNotice s
  | .sendTToGRelay => Sys2Proof.Machine.execSendTToGRelay s
  | .sendReport => Sys2Proof.Machine.execSendReport s
  | .alarmInputChange line level => Sys2Proof.Machine.execAlarmInputChange line level s
  | .debounceExpiry line => Sys2Proof.Machine.execDebounceExpiry line s
  | .saveMarkCleared verified => Sys2Proof.Machine.execSaveMarkCleared verified s
  | .saveSectorsErased verified => Sys2Proof.Machine.execSaveSectorsErased verified s
  | .saveTablesProgrammed verified => Sys2Proof.Machine.execSaveTablesProgrammed verified s
  | .saveMarkWritten verified => Sys2Proof.Machine.execSaveMarkWritten verified s
  | .read => Sys2Proof.Machine.execRead s
  | .find => Sys2Proof.Machine.execFind s
  | .readStatus => Sys2Proof.Machine.execReadStatus s
  | .writeCredential => Sys2Proof.Machine.execWriteCredential s
  | .eraseCredential => Sys2Proof.Machine.execEraseCredential s
  | .writeProfile => Sys2Proof.Machine.execWriteProfile s
  | .eraseProfile => Sys2Proof.Machine.execEraseProfile s
  | .writeTenant => Sys2Proof.Machine.execWriteTenant s
  | .eraseTenant => Sys2Proof.Machine.execEraseTenant s
  | .writeHoliday => Sys2Proof.Machine.execWriteHoliday s
  | .eraseHoliday => Sys2Proof.Machine.execEraseHoliday s
  | .writeLanding => Sys2Proof.Machine.execWriteLanding s
  | .eraseLanding => Sys2Proof.Machine.execEraseLanding s
  | .writeGroup => Sys2Proof.Machine.execWriteGroup s
  | .eraseGroup => Sys2Proof.Machine.execEraseGroup s
  | .writeSkyLobby => Sys2Proof.Machine.execWriteSkyLobby s
  | .eraseSkyLobby => Sys2Proof.Machine.execEraseSkyLobby s
  | .writeTerminal => Sys2Proof.Machine.execWriteTerminal s
  | .eraseTerminal => Sys2Proof.Machine.execEraseTerminal s
  | .writeFormat => Sys2Proof.Machine.execWriteFormat s
  | .eraseFormat => Sys2Proof.Machine.execEraseFormat s
  | .writeFacilityRange => Sys2Proof.Machine.execWriteFacilityRange s
  | .eraseFacilityRange => Sys2Proof.Machine.execEraseFacilityRange s
  | .writeAlarmLine => Sys2Proof.Machine.execWriteAlarmLine s
  | .eraseAlarmLine => Sys2Proof.Machine.execEraseAlarmLine s
  | .writeSettings => Sys2Proof.Machine.execWriteSettings s
  | .switchBanks => Sys2Proof.Machine.execSwitchBanks s
  | .copyActiveToStandby => Sys2Proof.Machine.execCopyActiveToStandby s
  | .saveImage => Sys2Proof.Machine.execSaveImage s
  | .restart => Sys2Proof.Machine.execRestart s
  | .restartMade => Sys2Proof.Machine.execRestartMade s
  | .startService => Sys2Proof.Machine.execStartService s
  | .setTime => Sys2Proof.Machine.execSetTime s
  | .setSiteCode => Sys2Proof.Machine.execSetSiteCode s
  | .releaseTerminal => Sys2Proof.Machine.execReleaseTerminal s
  | .ackLine => Sys2Proof.Machine.execAckLine s
  | .lockZones => Sys2Proof.Machine.execLockZones s
  | .unlockZones => Sys2Proof.Machine.execUnlockZones s
  | .holdGroup => Sys2Proof.Machine.execHoldGroup s
  | .resumeGroup => Sys2Proof.Machine.execResumeGroup s
  | .enterRecall => Sys2Proof.Machine.execEnterRecall s
  | .leaveRecall => Sys2Proof.Machine.execLeaveRecall s
  | .clearEvents => Sys2Proof.Machine.execClearEvents s
  | .receiverIdle port => Sys2Proof.Machine.execReceiverIdle port s
  | .receptionStart port => Sys2Proof.Machine.execReceptionStart port s
  | .undefinedOperation => Sys2Proof.Machine.execUndefinedOperation s

end Sys2Proof.Machine
end

