-- ==== Sys2Proof/Safety.lean ====
section
/-! DEFINITION. What the statements speak of: the occasions of the commands, the state a request leaves when it is answered, and the invariants of the state. -/

namespace Sys2Proof.Safety

open Sys2Proof.Machine

/-! ## Occasions -/

/-- The part works: it is not held in full reset and not LOADING (R190, R194). -/
def Working (s : State) : Prop := s.resetHeld = false ∧ s.partState ≠ .loading

/-- The request `p` stands at the head of the request FIFO, the Agent may take it (R173), its operation is
`op` and it holds the `need` bytes of that operation's fixed fields (R175). -/
def Asked (s : State) (p : List Byte) (rest : List (List Byte)) (op need : Nat) : Prop :=
  Working s ∧ s.requests = p :: rest ∧ s.responses.length < 4 ∧ s.restart = .none ∧
    numAt p 1 1 = op ∧ 6 ≤ need ∧ need ≤ p.length

/-- The request is a command whose site code matches (R177). -/
def Commanded (s : State) (p : List Byte) (rest : List (List Byte)) (op need : Nat) : Prop :=
  Asked s p rest op need ∧ BitVec.ofNat 32 (numAt p 2 4) = s.siteCode.code

/-- The request is a WRITE or an ERASE of a table with the site code matching, no save being in progress
(R175). -/
def Changing (s : State) (p : List Byte) (rest : List (List Byte)) (op table need : Nat) : Prop :=
  Commanded s p rest op need ∧ numAt p 6 1 = table ∧ s.saving = none

/-- The state with the request taken and its response placed: request number and operation echoed, the code
and the data part (R173, R174). -/
def answered (s : State) (p : List Byte) (rest : List (List Byte)) (c : Code) (data : List Byte) :
    State :=
  { s with requests := rest, responses := s.responses ++ [⟨p.getD 0 0, p.getD 1 0, c, data⟩] }

/-- A reception that ends now on the T-port is a good reply of the polled station (R63). The exchange is
stale when the station's record has become unconfigured since the poll (R65). -/
def GoodReply (s : State) (r : Reception) (x : Exchange) (f : Frame) : Prop :=
  Working s ∧ s.tReceiver = .receiving ∧ s.exchange = some x ∧ x.begun = true ∧
    judge r = some f ∧ f.source = x.station ∧ f.destination = 0

/-- A reception that ends now on the G-port is a good frame for the part's own station (R165). -/
def ForThePart (s : State) (r : Reception) (f : Frame) : Prop :=
  Working s ∧ s.gReceiver = .receiving ∧ judge r = some f ∧
    f.destination = s.tables.settings.ownStation

/-- A good frame whose destination station is none that the part serves: not its own, and 0, above 64, the
head-end's, the frame's source or a configured group's (R165). -/
def NotAddressed (s : State) (f : Frame) : Prop :=
  f.destination ≠ s.tables.settings.ownStation ∧
    (f.destination = 0 ∨ 64 < f.destination ∨ f.destination = s.tables.settings.headEnd ∨
      f.destination = f.source ∨
      ∃ g, 1 ≤ g ∧ g ≤ 6 ∧ (s.groupConfig g).station = some f.destination)

/-- The T-port line is free (R66). -/
def TFree (s : State) : Prop := Working s ∧ s.exchange = none

/-- A kind's cell after one more occurrence: status set, count up by one and staying at 255 (R181). -/
def bumped (s : State) (k : EventKind) : EventCell := ⟨true, min 255 ((s.event k).count + 1)⟩

/-- The Notice FIFO after one occurrence of a kind: a notice with the count after the occurrence joins it when
the status was clear, the kind is enabled and the FIFO holds fewer than 8 (R181, R182). -/
def noticed (s : State) (k : EventKind) : List Notice :=
  if (s.event k).raised = false ∧ memSet s.tables.settings.enables k.number = true ∧
      s.notices.length < 8 then
    s.notices ++ [⟨k, min 255 ((s.event k).count + 1)⟩]
  else s.notices

/-- One occurrence of an event kind has been counted and its notice queued; every other kind stays
(R181, R182). -/
def Counted (s t : State) (k : EventKind) : Prop :=
  t.event k = bumped s k ∧ (∀ j, j ≠ k → t.event j = s.event j) ∧ t.notices = noticed s k

/-- The occurrences of the listed kinds, one after another in the list's order, and no other make of the
events and notices of `s` those of `t` (R181). -/
def Raised : State → State → List EventKind → Prop
  | s, t, [] => (∀ j, t.event j = s.event j) ∧ t.notices = s.notices
  | s, t, k :: ks => ∃ u, u = { s with events := u.events, notices := u.notices } ∧
      Counted s u k ∧ Raised u t ks

/-- The kind, when the condition holds. -/
def onlyIf (p : Prop) [Decidable p] (k : EventKind) : List EventKind := if p then [k] else []

/-- The REPORTS_LOST of a decision that ends with reporting enabled and the Report FIFO full (R185). -/
def overflow (s : State) : List EventKind :=
  onlyIf (s.tables.settings.reporting = true ∧ 32 ≤ s.reports.length) .reportsLost

/-- The G-port transmitter may take a frame: the part works and no RESTART waits to be made (R170,
R173). -/
def TransmitterFree (s : State) : Prop := Working s ∧ s.restart ≠ .transmitted

/-- A group has a sendable CALL: its queue is not empty, its outstanding count is below its limit and the
building mode is NORMAL (R129). -/
def SendableCall (s : State) (g : Nat) : Prop :=
  (s.group g).queue ≠ [] ∧ (s.group g).outstanding.length < (s.groupConfig g).limit ∧
    s.mode = .normal

/-- No group has a sendable CALL. -/
def NoSendableCall (s : State) : Prop := ∀ g, 1 ≤ g → g ≤ 6 → ¬ SendableCall s g

/-- A round of this round count polls the station: configured, and PRESENT unless the count is 0 (R62). -/
def Polls (s : State) (round u : Nat) : Prop :=
  1 ≤ u ∧ u ≤ 64 ∧ (s.terminalConfig u).configured = true ∧
    ((s.terminal u).absent = false ∨ round = 0)

/-- A poll of the station has been sent in a round of this count, and its reply time runs (R62, R63). -/
def polled (s : State) (round u : Nat) : State :=
  { s with
    roundCount := round, roundPosition := u, exchange := some ⟨u, s.now + 20, false, false⟩
    tLine := some (composeFrame u 0 1 []), tReceiver := .idle }

/-- A group is configured and serves both landings (R14, R15). -/
def Joins (s : State) (g o d : Nat) : Prop :=
  1 ≤ g ∧ g ≤ 6 ∧ s.serves g o = true ∧ s.serves g d = true

/-- A group may carry a call between two landings: it serves both and is IN_SERVICE (R14). -/
def Carries (s : State) (g o d : Nat) : Prop := Joins s g o d ∧ (s.group g).service = .inService

/-- The lowest-numbered group that carries a call between two landings (R14). -/
def LowestCarrier (s : State) (g o d : Nat) : Prop :=
  Carries s g o d ∧ ∀ h, h < g → ¬ Carries s h o d

/-- The slot holds a sky lobby that a two-leg search does not pass over (R14). -/
def Lobby (s : State) (slot l o d : Nat) : Prop :=
  slot ≤ 3 ∧ s.tables.skyLobbies.get none slot = some l ∧ l < s.tables.settings.landingCount ∧
    l ≠ o ∧ l ≠ d

/-- A two-leg route over a sky lobby, by groups of the given kind (R14, R15). -/
def Bridge (carries : Nat → Nat → Nat → Prop) (l o d : Nat) : Prop :=
  (∃ g, carries g o l) ∧ ∃ h, carries h l d

/-- Leg-1 group and transfer landing of the two-leg route that the search of R14 finds: the first slot whose
lobby bridges the two landings. -/
def FirstBridge (s : State) (g l o d : Nat) : Prop :=
  ∃ slot, Lobby s slot l o d ∧ LowestCarrier s g o l ∧ (∃ h, Carries s h l d) ∧
    ∀ j m, j < slot → Lobby s j m o d → ¬ Bridge (Carries s) m o d

/-- What placing an entry on the Cancel List makes of it: a list that holds the entry already or is full
stays as it was, any other takes the entry at its tail (R139). -/
def listed (cs : List Cancel) (c : Cancel) : List Cancel :=
  if c ∈ cs ∨ 32 ≤ cs.length then cs else cs ++ [c]

/-- What queueing a report makes of the Report FIFO (R185). -/
def reported (s : State) (r : Report) : List Report :=
  if s.tables.settings.reporting = true ∧ s.reports.length < 32 then s.reports ++ [r] else s.reports

/-- A tag is held by no settled trip, no queued call and no outstanding call (R128). -/
def TagFree (s : State) (tag : Nat) : Prop :=
  (∀ x ∈ s.trips, x.settled = true → x.tag ≠ tag) ∧
    ∀ g, 1 ≤ g → g ≤ 6 → (∀ c ∈ (s.group g).queue, c.tag ≠ tag) ∧
      ∀ o ∈ (s.group g).outstanding, o.call.tag ≠ tag

/-- How many numbers an allocator goes on from the last one issued to `n`, `top` being followed by 1, as is a
register of 0 (R109, R128). -/
def stepsTo (top last n : Nat) : Nat := if last < n then n - last else n + top - min last top

/-- The number an allocator takes: the first one after the last one issued that is not held (R109, R128). -/
def Allocated (top last : Nat) (held : Nat → Prop) (n : Nat) : Prop :=
  1 ≤ n ∧ n ≤ top ∧ ¬ held n ∧
    ∀ m, 1 ≤ m → m ≤ top → stepsTo top last m < stepsTo top last n → held m

/-- What making room in the Trip List leaves of it: a list that is not full stays, and from a full one the
settled record nearest its head is taken out (R122). -/
def Roomed (trips kept : List Trip) : Prop :=
  (trips.length < 512 → kept = trips) ∧
    ∀ older x younger, 512 ≤ trips.length → trips = older ++ x :: younger → x.settled = true →
      (∀ y ∈ older, y.settled = false) → kept = older ++ younger

/-- The trip's terminal awaits the trip (R59). -/
abbrev Awaits (s : State) (x : Trip) : Prop :=
  (s.terminal x.terminal).service = .awaiting x.number

/-- The trips of a queue's calls, in the order of the queue. -/
def tripsOfCalls (s : State) (queue : List Call) : List Trip :=
  queue.filterMap (fun c => s.tripOf c.trip)

/-- The answer of a trip whose queued call is withdrawn (R105, R141). -/
def retryNoService (x : Trip) : Answer :=
  ⟨x.terminal, .retry, some .noService, some x.final, none, none, false⟩

/-- The answer of a trip that recall entry ends (R105, R156). -/
def serviceSuspended (x : Trip) : Answer :=
  ⟨x.terminal, .denied, some .serviceSuspended, some x.final, none, none, false⟩

/-- `more` answers, in the order of the trips, each terminal that awaits one of them, once, and no other. -/
def AnswersInOrder (s : State) (trips : List Trip) (answer : Trip → Answer) (more : List Answer) :
    Prop :=
  more.Sublist ((trips.filter (fun x => Awaits s x)).map answer) ∧
    (more.map (fun a => a.terminal)).Nodup ∧
    ∀ x ∈ trips, Awaits s x → ∃ a ∈ more, a.terminal = x.terminal

/-- Each terminal that awaits one of the trips becomes IDLE, and every other stays as it was. -/
def AwaitingBecomeIdle (s t : State) (trips : List Trip) : Prop :=
  (∀ x ∈ trips, Awaits s x →
    t.terminal x.terminal = { s.terminal x.terminal with service := .idle }) ∧
  ∀ u, (∀ x ∈ trips, x.terminal = u → ¬ Awaits s x) → t.terminal u = s.terminal u

/-- The calls, the trips, the Cancel List, the answers and the terminals stand as they were. -/
def WorkStays (s t : State) : Prop :=
  t.groups = s.groups ∧ t.cancels = s.cancels ∧ t.trips = s.trips ∧ t.answers = s.answers ∧
    t.terminals = s.terminals

/-- The event of a change of the building mode (R156, R158). -/
def modeEvents (s t : State) : List EventKind :=
  onlyIf (s.mode = .normal ∧ t.mode = .recall) .recallEntered ++
    onlyIf (s.mode = .recall ∧ t.mode = .normal) .recallLeft

/-- What a forming of the building mode does to the work in hand: without a change and on leaving RECALL
nothing; recall entry discards every call, every trip and the Cancel List, answers the awaiting terminals in
the order of the Trip List and sets every AWAITING terminal IDLE (R142, R155, R156, R158). -/
def WorkFollowsMode (s t : State) : Prop :=
  (s.mode = .recall ∨ t.mode = .normal → WorkStays s t) ∧
  (s.mode = .normal → t.mode = .recall → t.trips = [] ∧ t.cancels = [] ∧
    (∃ more, t.answers = s.answers ++ more ∧ AnswersInOrder s s.trips serviceSuspended more) ∧
    (Store.wf {} s.groups = true →
      ∀ g, t.group g = { s.group g with queue := [], outstanding := [] }) ∧
    (Store.wf {} s.terminals = true → ∀ u, t.terminal u =
      match (s.terminal u).service with
      | .awaiting _ => { s.terminal u with service := .idle }
      | .idle | .held _ | .latched => s.terminal u))

/-- The pass of a key that waits at the presenting terminal's origin landing (R88, R89). -/
def waitingPass (s : State) (p : Presentation) (k : BadgeKey) : Option Trip :=
  (s.tripOfKey k).filter (fun t =>
    t.state = .awaitingTransfer ∧ t.transfer = some (s.terminalConfig p.terminal).origin)

/-- The landing that a destination request resolves to: a landing itself, DEFAULT, or CONTINUE, which without
a waiting pass is DEFAULT (R88). -/
def requested (s : State) (p : Presentation) (k : BadgeKey) (e : BadgeEntry) : Option Nat :=
  let n := p.request.toNat
  if n < 128 then some n
  else if n = 128 then e.defaultLanding
  else if n = 129 then ((waitingPass s p k).map (fun t => t.final)).or e.defaultLanding
  else none

/-- The presentation continues the pass `t` (R89). -/
def Continues (s : State) (p : Presentation) (k : BadgeKey) (e : BadgeEntry) (t : Trip) : Prop :=
  waitingPass s p k = some t ∧ requested s p k e = some t.final

/-- The entry's tenant is SUSPENDED in the active bank (R91). -/
def TenantHeld (s : State) (e : BadgeEntry) : Prop :=
  ∃ n, e.tenant = some n ∧ (s.active.tenants.get {} n).suspended = true

/-- Today is before the entry's start day, by a clock that is SET (R91). -/
def Early (s : State) (e : BadgeEntry) : Prop := s.clock.isSet = true ∧ s.clock.day < e.startDay

/-- Today is after the entry's end day, by a clock that is SET (R91). -/
def Late (s : State) (e : BadgeEntry) : Prop :=
  s.clock.isSet = true ∧ ∃ d, e.endDay = some d ∧ d < s.clock.day

/-- The badge may be used now: stage 4 passes (R90 to R92). -/
def MayBeUsed (s : State) (p : Presentation) (k : BadgeKey) (e : BadgeEntry) : Prop :=
  e.state = .active ∧ ¬ TenantHeld s e ∧ ¬ Early s e ∧ ¬ Late s e ∧
    (e.cls ≠ .visitor ∨ (∃ n, e.trips = some (n + 1)) ∨ ∃ t, Continues s p k e t)

/-- The group's Call Queue holds 8 calls, not counting one of the key's own record (R100). -/
def QueueFull (s : State) (k : BadgeKey) (g : Nat) : Prop :=
  8 ≤ ((s.group g).queue.filter
    (fun c => (s.tripOfKey k).all (fun t => decide (c.trip ≠ t.number)))).length

/-- The Week Clock's reading in seconds from the start of day 0. -/
def secondsOf (c : WeekClock) : Nat := c.day * 86400 + c.minute * 60 + c.second

/-- A management operation: its operation code, the table it names if any, and the bytes of its fixed
fields (12.4). -/
structure Operation where
  command : Instr
  code : Nat
  table : Option Nat
  need : Nat

/-- The operations that change a table or the image, and are refused BUSY during a save (R175). A Settings
item's need is the greatest of the sixteen. -/
def changes : List Operation :=
  [⟨.writeCredential, 3, some 1, 26⟩, ⟨.eraseCredential, 4, some 1, 16⟩,
    ⟨.writeProfile, 3, some 2, 31⟩, ⟨.eraseProfile, 4, some 2, 10⟩,
    ⟨.writeTenant, 3, some 3, 27⟩, ⟨.eraseTenant, 4, some 3, 10⟩,
    ⟨.writeHoliday, 3, some 4, 12⟩, ⟨.eraseHoliday, 4, some 4, 10⟩,
    ⟨.writeLanding, 3, some 5, 13⟩, ⟨.eraseLanding, 4, some 5, 10⟩,
    ⟨.writeGroup, 3, some 6, 29⟩, ⟨.eraseGroup, 4, some 6, 10⟩,
    ⟨.writeSkyLobby, 3, some 7, 11⟩, ⟨.eraseSkyLobby, 4, some 7, 10⟩,
    ⟨.writeTerminal, 3, some 8, 13⟩, ⟨.eraseTerminal, 4, some 8, 10⟩,
    ⟨.writeFormat, 3, some 9, 16⟩, ⟨.eraseFormat, 4, some 9, 10⟩,
    ⟨.writeFacilityRange, 3, some 10, 15⟩, ⟨.eraseFacilityRange, 4, some 10, 10⟩,
    ⟨.writeAlarmLine, 3, some 11, 17⟩, ⟨.eraseAlarmLine, 4, some 11, 10⟩,
    ⟨.writeSettings, 3, some 12, 14⟩, ⟨.switchBanks, 16, none, 6⟩,
    ⟨.copyActiveToStandby, 17, none, 6⟩, ⟨.saveImage, 18, none, 6⟩]

/-- The commands that are accepted while the image is being saved (R175, R189). -/
def orders : List Operation :=
  [⟨.restart, 19, none, 6⟩, ⟨.startService, 20, none, 6⟩, ⟨.setTime, 21, none, 11⟩,
    ⟨.setSiteCode, 22, none, 10⟩, ⟨.releaseTerminal, 23, none, 7⟩, ⟨.ackLine, 24, none, 7⟩,
    ⟨.lockZones, 25, none, 8⟩, ⟨.unlockZones, 26, none, 8⟩, ⟨.holdGroup, 27, none, 7⟩,
    ⟨.resumeGroup, 28, none, 7⟩, ⟨.enterRecall, 29, none, 6⟩, ⟨.leaveRecall, 30, none, 6⟩,
    ⟨.clearEvents, 31, none, 9⟩]

/-- The bytes of a WRITE of a Settings item, by its row (12.4); a relay set's kinds follow its count, and a
row above 15 is taken to have one byte (assumption log 14, 39). -/
def settingNeed (item : Nat) : Nat :=
  if item = 4 then 14 else if item = 11 then 12 else if item = 13 then 13 else 11

/-- The bytes of a request's fixed fields, for an operation with the request at hand (12.4). -/
def Operation.needOf (o : Operation) (p : List Byte) : Nat :=
  if o.command = .writeSettings then settingNeed (numAt p 8 2) else o.need

/-- The operations that read, by table, and need no site code (R174, R175). -/
def readings : List Operation :=
  (List.range' 1 14).map (fun n => ⟨.read, 1, some n, 10⟩) ++
    [⟨.find, 2, some 1, 16⟩, ⟨.readStatus, 5, none, 6⟩]

/-! ## The forms of frames, words and records, as the spec lays them out -/

/-- The bits of a run of bytes, each byte from its most significant bit (R163). -/
def bitsOf (bs : List Byte) : List Bool :=
  bs.flatMap (fun b => [7, 6, 5, 4, 3, 2, 1, 0].map (fun i => b.toNat.testBit i))

/-- One bit taken into the check register, as a number: the highest bit against the incoming one, a shift
towards the high end that drops it, and 4,129 by exclusive-or when they differ (R163). -/
def checkStep (register : Nat) (bit : Bool) : Nat :=
  let shifted := 2 * register % 65536
  if decide (32768 ≤ register) = bit then shifted else Nat.xor shifted 4129

/-- The check of a run of bytes, from the register preset to all ones (R163). -/
def checkOfBytes (bs : List Byte) : Nat := (bitsOf bs).foldl checkStep 65535

/-- A reception fails one of the receiver's tests (R162). -/
def FailsATest (r : Reception) : Prop :=
  let n := numAt r.bytes 3 1
  r.stopBits = false ∨ r.bytes.length < 6 ∨ 56 < n ∨ r.bytes.length ≠ n + 6 ∨
    checkOfBytes (r.bytes.take (n + 4)) ≠ numAt r.bytes (n + 4) 2

/-- How many of the word's bits with a property are ones. -/
def onesWhere (bits : ReaderBits) (n : Nat) (which : Nat → Bool) : Nat :=
  (List.range n).countP (fun i => which i && bits.getMsbD i)

/-- A reader word of `n` bits is UNREADABLE by a format: its bit count differs, or under SPLIT parity bits 0
to h do not hold an even number of ones or bits h + 1 to n - 1 an odd number, with h half of n - 2 (R69). -/
def Unreadable (f : Format) (n : Nat) (bits : ReaderBits) : Prop :=
  let h := (n - 2) / 2
  n ≠ f.length ∨ (f.split = true ∧
    (onesWhere bits (h + 1) (fun _ => true) % 2 ≠ 0 ∨
      onesWhere bits n (fun i => decide (h < i)) % 2 ≠ 1))

/-- The number formed by `length` bits of a word from bit `start` on, the first received the most significant
(R70). -/
def fieldOf (bits : ReaderBits) (start length : Nat) : Nat :=
  ((List.range length).map
    (fun j => if bits.getMsbD (start + j) then 2 ^ (length - 1 - j) else 0)).sum

/-- The verdicts, reasons, response codes and event kinds in the order of their numbers (12.2, 12.4, 10.5). -/
def verdicts : List Verdict := [.admitted, .repeated, .denied, .retry]
def reasons : List Reason :=
  [.unconfigured, .serviceSuspended, .terminalHeld, .terminalLatched, .unreadable, .foreignFacility,
    .unknownBadge, .suspended, .lost, .tenantSuspended, .notYetValid, .expired, .noTripsLeft,
    .noDefault, .badDestination, .sameLanding, .serviceOnly, .zoneLocked, .clockUnset, .notPermitted,
    .otherBank, .noRoute, .noService, .groupBusy, .noAnswer, .superseded]
def responseCodes : List Code :=
  [.ok, .okClamped, .notFound, .bucketFull, .badTable, .badIndex, .badField, .notAuthorized, .busy,
    .locked, .stillActive]
def eventKinds : List EventKind :=
  [.terminalHeld, .terminalLatched, .terminalAbsent, .terminalPresent, .groupSilent, .groupRestored,
    .alarmRaised, .alarmCleared, .recallEntered, .recallLeft, .lostBadgeSeen, .portOverrun,
    .linkErrors, .relayLost, .cancelLost, .reportsLost, .saveDone, .saveFailed, .authFailed, .clockUnset]

/-- The byte of an optional number, and what stands for an absent one. -/
def orElse (absent : Byte) : Option Nat → Byte
  | some n => byteOf n
  | none => absent

/-- The bytes of verdict and reason, a reason of 0 when absent (12.2). -/
def verdictByte (v : Verdict) : Byte := byteOf (verdicts.idxOf v + 1)
def reasonByte (r : Option Reason) : Byte := orElse 0 (r.map (fun r => reasons.idxOf r + 1))

/-- The flag of weight `w`, when the condition holds. -/
def flag (w : Nat) (p : Prop) [Decidable p] : Nat := if p then w else 0

/-- The 6 bytes of an ANSWER's payload (12.2). -/
def answerBytes (a : Answer) (overrun : Bool) : List Byte :=
  [verdictByte a.verdict, reasonByte a.reason, orElse 255 a.destination, orElse 0 a.car,
    orElse 255 a.transfer, byteOf (flag 128 (a.held = true) + flag 64 (overrun = true))]

/-- The 18 bytes of a REPORT's payload (12.3; assumption log 41). -/
def reportBytes (r : Report) : List Byte :=
  bytesOfNat 2 r.time.day ++ bytesOfNat 2 r.time.minute ++
    [byteOf r.time.second, byteOf r.terminal,
      byteOf (flag 128 (r.key ≠ none) + flag 64 (r.destination ≠ none) + flag 32 (r.reason ≠ none) +
        flag 16 (r.legs ≠ none) + flag 8 (r.clockSet = true))] ++
    (match r.key with
      | some k => bytesOfNat 2 k.facility ++ bytesOfNat 4 k.card
      | none => [0, 0, 0, 0, 0, 0]) ++
    [r.request, orElse 255 r.destination, verdictByte r.verdict, reasonByte r.reason, orElse 0 r.legs]

/-- The 16 bytes of a returned badge entry; those of an absent tenant, end day and trips remaining are free
(12.4; assumption log 10, 24, 40). -/
def entryBytes (e : BadgeEntry) (n : Nat) : List Byte :=
  bytesOfNat 2 e.key.facility ++ bytesOfNat 4 e.key.card ++
    [byteOf (64 * [CredClass.staff, .visitor, .service, .override].idxOf e.cls +
        [EntryState.active, .suspended, .lost].idxOf e.state),
      byteOf e.profile, orElse (Config.freeByte n) e.tenant] ++ bytesOfNat 2 e.startDay ++
    (match e.endDay with
      | some d => bytesOfNat 2 d
      | none => [Config.freeByte (n + 1), Config.freeByte (n + 2)]) ++
    [orElse (Config.freeByte (n + 3)) e.trips, orElse 255 e.defaultLanding,
      byteOf (flag 128 (e.tenant ≠ none) + flag 64 (e.endDay ≠ none) + flag 32 (e.trips ≠ none) +
        flag 16 (e.defaultLanding ≠ none) + flag 8 (e.needs = true))]

/-- The badge entry in the 16 bytes from byte 10 of a request on (12.4; assumption log 40). -/
def entryIn (p : List Byte) : BadgeEntry :=
  let marked := fun (i : Nat) (n : Nat) => if (numAt p 25 1).testBit i then some n else none
  { key := ⟨numAt p 10 2, numAt p 12 4⟩
    state := [EntryState.active, .suspended, .lost, .lost].getD (numAt p 16 1 % 4) .lost
    cls := [CredClass.staff, .visitor, .service, .override].getD (numAt p 16 1 / 64) .override
    profile := numAt p 17 1
    tenant := marked 7 (numAt p 18 1)
    startDay := numAt p 19 2
    endDay := marked 6 (numAt p 21 2)
    trips := marked 5 (numAt p 23 1)
    defaultLanding := marked 4 (numAt p 24 1)
    needs := (numAt p 25 1).testBit 3 }

/-- A returned trip record: the fields of R108 in their order, the expiry as the whole seconds that remain,
rounded up (R125, 12.4; assumption log 28). -/
def tripRecordBytes (now : Nat) (x : Trip) : List Byte :=
  bytesOfNat 2 x.number ++ bytesOfNat 2 x.key.facility ++ bytesOfNat 4 x.key.card ++
    [byteOf x.terminal, byteOf x.origin, byteOf x.final, byteOf x.legs, orElse 255 x.transfer,
      byteOf x.leg, byteOf x.group] ++ bytesOfNat 2 x.tag ++
    [orElse 0 x.car,
      byteOf ([TripState.queued, .called, .assigned, .awaitingTransfer].idxOf x.state)] ++
    bytesOfNat 2 x.created.day ++ bytesOfNat 2 x.created.minute ++ [byteOf x.created.second] ++
    bytesOfNat 2 (match x.expiry with
      | some e => (e - now + 999) / 1000
      | none => 0)

/-- The value of each Settings item, in the order of R179's rows (12.4). -/
def settingValues (c : Settings) : List (List Byte) :=
  [[byteOf c.ownStation], [byteOf c.headEnd], [byteOf c.landingCount], [byteOf c.epochWeekday],
    bytesOfNat 2 c.nightStart ++ bytesOfNat 2 c.nightLength, [byteOf c.threshold], [byteOf c.decayCode],
    [byteOf c.latchLimit], [byteOf c.holdIndex], [byteOf (flag 1 (c.extendedHold = true))],
    [byteOf c.repeatGuard], bytesOfNat 2 c.transferWindow, [byteOf (flag 1 (c.reporting = true))],
    bytesOfNat 3 c.enables.toNat, byteOf c.gToT.length :: c.gToT, byteOf c.tToG.length :: c.tToG]

/-! ## Invariants -/

/-- A property of states that every step keeps. -/
def Kept (inv : State → Prop) : Prop := ∀ s t : State, inv s → step s = .next t → inv t

/-- The Week Clock's fields stay within their ranges (R48). -/
def ClockInRange (s : State) : Prop :=
  s.clock.second ≤ 59 ∧ s.clock.minute ≤ 1439 ∧ s.clock.day ≤ 65535

/-- Every table of a policy bank is in canonical form (assumption log 23). -/
def BankCanonical (b : PolicyBank) : Prop :=
  Store.wf none b.profiles = true ∧ Store.wf {} b.tenants = true ∧
    Store.wf none b.holidays = true ∧ Store.wf {} b.landings = true

/-- Every table of the image's kind is in canonical form (assumption log 23). -/
def TablesCanonical (t : Tables) : Prop :=
  BankCanonical t.bankA ∧ BankCanonical t.bankB ∧ Store.wf none t.credentials = true ∧
    Store.wf {} t.terminals = true ∧ Store.wf {} t.groups = true ∧
    Store.wf none t.skyLobbies = true ∧ Store.wf {} t.formats = true ∧
    Store.wf none t.facilities = true ∧ Store.wf {} t.alarmLines = true

/-- The tables in RAM, the image and the snapshot of a save all have a property. -/
def EveryTables (good : Tables → Prop) (s : State) : Prop :=
  good s.tables ∧ (∀ i, s.image = some i → good i.tables) ∧
    ∀ j, s.saving = some j → good j.snapshot

/-- Each terminal has at most one answer waiting and none while it is AWAITING; a station that is polled, is
answered or awaits a trip is one of the 64 (R59, R62, R67, R72). -/
def AnswersWithin (s : State) : Prop :=
  s.answers.length ≤ 64 ∧ (s.answers.map (fun a => a.terminal)).Nodup ∧
    (∀ a ∈ s.answers, 1 ≤ a.terminal ∧ a.terminal ≤ 64 ∧
      ∀ n, (s.terminal a.terminal).service ≠ .awaiting n) ∧
    (∀ u n, (s.terminal u).service = .awaiting n → 1 ≤ u ∧ u ≤ 64) ∧
    ∀ x, s.exchange = some x → 1 ≤ x.station ∧ x.station ≤ 64

/-- Limits are at most 16 and FIXED terminals name a group 1 to 6 (R5, R58). -/
def LimitsWithin (t : Tables) : Prop :=
  (∀ g, (t.groups.get {} g).limit ≤ 16) ∧
    ∀ u g, (t.terminals.get {} u).binding = .fixed g → 1 ≤ g ∧ g ≤ 6

/-- The calls of a group in a list are those of the group's trips in the given state, one for each. -/
def CallsOfTrips (s : State) (g : Nat) (calls : List Call) (st : TripState) : Prop :=
  (calls.map (fun c => c.trip)).Nodup ∧
    (∀ c ∈ calls, ∃ x ∈ s.trips, x.number = c.trip ∧ x.tag = c.tag ∧ x.group = g ∧ x.state = st) ∧
    ∀ x ∈ s.trips, x.group = g → x.state = st → ∃ c ∈ calls, c.trip = x.number

/-- A trip is QUEUED exactly while its call stands in its group's Call Queue and CALLED exactly while it
stands in the Outstanding Call Table; no two trips have one number or one tag; queues, tables and the Trip
List hold no more than their capacities (R107, R109, R126 to R128). -/
def CallsWithin (s : State) : Prop :=
  EveryTables LimitsWithin s ∧ s.trips.length ≤ 512 ∧
    (s.trips.map (fun x => x.number)).Nodup ∧ (s.trips.map (fun x => x.tag)).Nodup ∧
    (∀ x ∈ s.trips, x.settled = false → 1 ≤ x.group ∧ x.group ≤ 6) ∧
    ∀ g, (s.group g).queue.length ≤ 8 ∧ (s.group g).outstanding.length ≤ 16 ∧
      CallsOfTrips s g (s.group g).queue .queued ∧
      CallsOfTrips s g ((s.group g).outstanding.map (fun o => o.call)) .called

/-- The FIFOs of the ports and the Agent, the Cancel List, the answer FIFO, the Call Queues, the Outstanding
Call Tables and the Trip List hold no more than their capacities, with what keeps the last four within them
(R67, R107, R126, R127, R139, R166, R168, R169, R173, R182, R185). -/
def FifosWithin (s : State) : Prop :=
  s.requests.length ≤ 8 ∧ s.responses.length ≤ 4 ∧ s.notices.length ≤ 8 ∧ s.reports.length ≤ 32 ∧
    s.cancels.length ≤ 32 ∧ s.toTerminals.length ≤ 16 ∧ s.toNetwork.length ≤ 16 ∧
    AnswersWithin s ∧ CallsWithin s

/-- Every indexed table of the state is in canonical form, so that equal tables are equal data
(assumption log 23). -/
def Canonical (s : State) : Prop :=
  EveryTables TablesCanonical s ∧ Store.wf {} s.terminals = true ∧ Store.wf {} s.groups = true ∧
    Store.wf .high s.inputs = true ∧ Store.wf {} s.lines = true ∧ Store.wf {} s.events = true

/-- Each entry of a Credential Table stands in a way of its key's bucket, and no key occupies two ways
(R18). -/
def CredentialsSound (t : Tables) : Prop :=
  Store.wf none t.credentials = true ∧
    ∀ w e, (w, some e) ∈ t.credentials → w / 4 = bucketOf e.key ∧
      ∀ v f, (v, some f) ∈ t.credentials → f.key = e.key → v = w

/-- The Credential Table is sound in RAM, in the image and in a save's snapshot, and the population count
is the number of occupied ways, at most 16,384 (R18, R35). -/
def CredentialTableSound (s : State) : Prop :=
  EveryTables CredentialsSound s ∧ s.population = s.tables.credentials.length ∧
    s.population ≤ 16384

/-- The dynamic part of a terminal is consistent: the tally is at most 15, the decay timer runs exactly
while it is above 0, it is 0 in HELD and LATCHED, the hold count is at most 7, and 7 in LATCHED alone, and
the terminal is ABSENT exactly at 3 misses (R59, R64, R74 to R76). -/
def TerminalSound (v : TerminalState) : Prop :=
  v.tally ≤ 15 ∧ (v.decay = none ↔ v.tally = 0) ∧
    (v.service = .latched → v.tally = 0) ∧ (∀ d, v.service = .held d → v.tally = 0) ∧
    v.holds ≤ 7 ∧ (v.holds = 7 → v.service = .latched) ∧
    v.misses ≤ 3 ∧ (v.absent = true ↔ v.misses = 3)

/-- Every terminal's dynamic part is consistent, the latch limit, which bounds the hold counts, is at most 7
wherever it is held, and every group's streak is at most 3 (R9, R76, R179). -/
def TerminalsSound (s : State) : Prop :=
  (∀ e ∈ s.terminals, TerminalSound e.2) ∧ EveryTables (fun t => t.settings.latchLimit ≤ 7) s ∧
    ∀ g, (s.group g).streak ≤ 3

/-- The building mode is RECALL exactly while the management recall flag is set or a line in force has
action RECALL; during LOADING the lines stand at their reset values and the flag is clear (R147, R155). -/
def ModeFollows (s : State) : Prop :=
  (s.mode = .recall ↔ s.recallFlag = true ∨
    ∃ k ≤ 7, (s.line k).status ≠ .normal ∧ (s.lineConfig k).mask = false ∧
      (s.lineConfig k).action = .recall) ∧
  (s.partState = .loading → s.lines = [] ∧ s.recallFlag = false)

/-- The Trip List holds no two records with the same key (R107). -/
def OneTripPerKey (s : State) : Prop := (s.trips.map (fun t => t.key)).Nodup

end Sys2Proof.Safety
end

