-- ==== Sys2Proof/Certificates/Slice0/Obligations.lean ====
section
/-! DEFINITION. The statements about the CF640 that are to be proved. Each says what a command leaves of the whole state: the fields it names, and, by the record update it stands in, that every other field is unchanged. -/

open Sys2Proof Sys2Proof.Machine Sys2Proof.Safety

/-! ## The machine, its resets and its clock -/

/-- A step takes the command at the front of the queue and runs it with the queue's rest (assumption
log 1). -/
def Obligations.StepRunsTheFrontCommand : Prop :=
  ∀ (c : Instr) (rest : List Instr) (s : State), s.pending = c :: rest →
    step s = exec c { s with pending := rest }

/-- No command stops the part and none touches the waiting commands; with none waiting a step is one
millisecond, in which nothing but elapsed time changes and in full reset not even that (assumption
log 1). -/
def Obligations.NoCommandStopsThePart : Prop :=
  (∀ (c : Instr) (s : State), ∃ t, exec c s = .next t ∧ t.pending = s.pending) ∧
  (∀ s : State, s.pending = [] →
    step s = .next { s with now := if s.resetHeld then s.now else s.now + 1 })

/-- FULL_RESET holds the part, cuts its lines and ends a save; FULL_RESET_END and RESTART_MADE leave the part in
LOADING with every reset value, the first with the clock at day 0 UNSET, the second with the clock running
on; the site code SET becomes LOCKED. Of this the following is the model's choice and no rule's: until
FULL_RESET_END every other register and FIFO stands as it was (assumption log 29, where R192 applies the
values at the reset), and the tables in RAM and the raw inputs are as they were (log 5 to 7). -/
def Obligations.ResetsGiveTheResetValues : Prop :=
  ∀ s : State,
    let code : SiteCode :=
      ⟨s.siteCode.code, if s.siteCode.state = .blank then .blank else .locked⟩
    let image := if s.saving = none then s.image else none
    let after : State := { State.reset with
      tables := s.tables, population := s.population, inputs := s.inputs, siteCode := code
      image := image, imageSequence := s.imageSequence, freeCount := s.freeCount
      pending := s.pending }
    exec .fullReset s = .next { s with
      resetHeld := true, tReceiver := .sync, gReceiver := .sync, tLine := none, gLine := none
      saving := none, image := image } ∧
    (s.resetHeld = true → exec .fullResetEnd s = .next after) ∧
    (s.resetHeld = false → s.restart = .transmitted →
      exec .restartMade s = .next { after with
        clock := s.clock, now := s.now, nextSecond := s.nextSecond })

/-- LOADING_END gives the tables of a VALID image, or their reset contents, and the part state that goes
with them; it raises CLOCK_UNSET while the clock is UNSET; each line's debounce timer starts, or with
debounce code 0 its raw level is accepted at once (R147, R184, R190). With every debounce code above 0
nothing else changes. From a part whose mode stood as its lines form it, a line with debounce code 0 whose
input is active becomes ACTIVE or LATCHED by its trigger, with ALARM_RAISED when it is unmasked, and any other
stays NORMAL; the building mode follows, with recall entry (R148, R149, R152, R155, R156). The order of these
events is the model's choice (assumption log 19). -/
def Obligations.LoadingEndLoadsTheTables : Prop :=
  ∀ s : State, s.resetHeld = false → s.partState = .loading →
    ∃ t, exec .loadingEnd s = .next t ∧
      let unset := onlyIf (s.clock.isSet = false) .clockUnset
      let loaded := { s with tables := t.tables }
      (∀ i, s.image = some i → t.partState = .running ∧ t.tables = i.tables ∧
        t.population = i.tables.credentials.length ∧ t.imageSequence = i.sequence) ∧
      (s.image = none → t.partState = .unconfigured ∧ t.tables = {} ∧ t.population = 0 ∧
        t.imageSequence = 0) ∧
      (∀ k ≤ 7, ((t.lineConfig k).debounce = 0 →
          (t.line k).accepted = some (s.input k) ∧ (t.line k).timer = none) ∧
        ((t.lineConfig k).debounce ≠ 0 → t.line k = { s.line k with
          timer := some (s.now + debounceTime (t.lineConfig k).debounce) })) ∧
      (∀ k, 7 < k → t.line k = s.line k) ∧
      t.event .clockUnset = (if s.clock.isSet then s.event .clockUnset else bumped s .clockUnset) ∧
      t = { s with
        partState := t.partState, tables := t.tables, population := t.population
        imageSequence := t.imageSequence, lines := t.lines, events := t.events
        notices := t.notices, mode := t.mode, groups := t.groups, cancels := t.cancels
        trips := t.trips, answers := t.answers, terminals := t.terminals } ∧
      ((∀ k ≤ 7, (t.lineConfig k).debounce ≠ 0) → Raised loaded t unset ∧
        t = { s with
          partState := t.partState, tables := t.tables, population := t.population
          imageSequence := t.imageSequence, lines := t.lines, events := t.events
          notices := t.notices }) ∧
      (ModeFollows s →
        let c := t.lineConfig
        let sounds := fun k : Nat => (c k).debounce = 0 ∧
          s.input k = if (c k).activeLow then .low else .high
        let calls := fun k : Nat => sounds k ∧ (c k).mask = false ∧ (c k).action = .recall
        (∀ k ≤ 7, (t.line k).status = if sounds k then (if (c k).edge then .latched else .active)
          else .normal) ∧
        Raised loaded t (unset ++ (List.range 8).flatMap (fun k =>
          onlyIf (sounds k ∧ (c k).mask = false) .alarmRaised ++
            onlyIf (calls k ∧ ∀ j < k, ¬ calls j) .recallEntered)) ∧
        (t.mode = .recall ↔ ∃ k ≤ 7, calls k) ∧
        WorkFollowsMode s t)

/-- CLOCK_ADVANCE moves the reading on by one second, except that the last minute of day 65,535 is followed
by its first; the clock's state and every table stay (R49). SET_TIME sets the reading and the state SET, or
is refused BAD_FIELD with the clock as it was (R50). The model's own choices here: the advance takes elapsed
time on to the moment it was due and sets the next one (assumption log 2), and SET_TIME leaves the moment of the
next advance as it was, where R50 says one second later (log 21). -/
def Obligations.ClockAdvancesAndIsSet : Prop :=
  (∀ s : State, ClockInRange s → s.resetHeld = false →
    ∃ t, exec .clockAdvance s = .next t ∧ ClockInRange t ∧
      secondsOf t.clock = (if s.clock.day = 65535 ∧ s.clock.minute = 1439 ∧ s.clock.second = 59
        then 65535 * 86400 else secondsOf s.clock + 1) ∧
      t.clock.isSet = s.clock.isSet ∧
      t = { s with
        clock := t.clock, now := max s.now s.nextSecond, nextSecond := s.nextSecond + 1000 }) ∧
  (∀ (s : State) (p : List Byte) (rest : List (List Byte)), Commanded s p rest 21 11 →
    exec .setTime s = .next (
      if numAt p 8 2 < 1440 ∧ numAt p 10 1 < 60 then
        { answered s p rest .ok [] with clock := ⟨numAt p 6 2, numAt p 8 2, numAt p 10 1, true⟩ }
      else answered s p rest .badField []))

/-! ## The Terminal Port -/

/-- SEND_POLL polls the next station that the round selects, in ascending order; at the end of the round
the round count rises by one, 7 being followed by 0, and an ABSENT terminal is polled in the rounds of
count 0 alone; without a configured terminal no round is run (R62, R63, R66). The model's own: when the count
rises (assumption log 20), and that a round outlives a time without a configured terminal (log 38). -/
def Obligations.SendPollTakesTheNextStation : Prop :=
  ∀ s : State, TFree s → s.answers = [] → s.toTerminals = [] →
    (∀ u, s.roundPosition < u → Polls s s.roundCount u →
      (∀ v, s.roundPosition < v → v < u → ¬ Polls s s.roundCount v) →
      exec .sendPoll s = .next (polled s s.roundCount u)) ∧
    ((∀ v, s.roundPosition < v → ¬ Polls s s.roundCount v) →
      (∀ u, Polls s ((s.roundCount + 1) % 8) u →
        (∀ v, v < u → ¬ Polls s ((s.roundCount + 1) % 8) v) →
        exec .sendPoll s = .next (polled s ((s.roundCount + 1) % 8) u)) ∧
      (∀ u, Polls s 0 u → (∀ v, v < u → ¬ Polls s 0 v) →
        (∀ v, 1 ≤ v → v ≤ 64 → (s.terminalConfig v).configured = true →
          (s.terminal v).absent = true) →
        exec .sendPoll s = .next (polled s 0 u))) ∧
    ((∀ u, ¬ Polls s 0 u) → exec .sendPoll s = .next s)

/-- REPLY_TIME_EXPIRY ends the exchange in a miss: the count rises by one, up to 3, and at 3 a PRESENT
terminal becomes ABSENT with TERMINAL_ABSENT; no record changes when the station's record has become
unconfigured since the poll (R63 to R65). -/
def Obligations.UnansweredPollIsAMiss : Prop :=
  ∀ (s : State) (x : Exchange), Working s → s.exchange = some x → x.begun = false →
    let v := s.terminal x.station
    ∃ t, exec .replyTimeExpiry s = .next t ∧
      t = { s with
        now := max s.now x.deadline, exchange := none, terminals := t.terminals
        events := t.events, notices := t.notices } ∧
      (x.stale = true →
        t = { s with now := max s.now x.deadline, exchange := none }) ∧
      (x.stale = false →
        (∀ u, t.terminal u = if u ≠ x.station then s.terminal u
          else if v.absent = true then { v with misses := 3 }
          else if 2 ≤ v.misses then { v with misses := 3, absent := true }
          else { v with misses := v.misses + 1 }) ∧
        (v.absent = false → 2 ≤ v.misses → Counted s t .terminalAbsent) ∧
        ((v.absent = true ∨ v.misses < 2) → t.events = s.events ∧ t.notices = s.notices))

/-- POLL_REPLY, a good reply of another kind than PRESENT: the miss count becomes 0 and an ABSENT terminal
PRESENT, with TERMINAL_PRESENT; a reply of a kind in the T-to-G relay set, NIL apart, joins the relay FIFO,
or is dropped with RELAY_LOST when that is full. When the record has become unconfigured since the poll, the
reply ends the exchange and does nothing else (R65, R169). -/
def Obligations.PollReplyIsAGoodReply : Prop :=
  ∀ (s : State) (r : Reception) (x : Exchange) (f : Frame), GoodReply s r x f → f.kind ≠ 3 →
    let v := s.terminal x.station
    let relayed := f.kind ≠ 2 ∧ byteOf f.kind ∈ s.tables.settings.tToG
    (x.stale = true → exec (.pollReply r) s = .next
      { s with exchange := none, tReceiver := .idle }) ∧
    (x.stale = false → ∃ t, exec (.pollReply r) s = .next t ∧
      t = { s with
        exchange := none, tReceiver := .idle, terminals := t.terminals, events := t.events
        notices := t.notices, toNetwork := t.toNetwork } ∧
      (∀ u, t.terminal u = if u = x.station then { v with misses := 0, absent := false }
        else s.terminal u) ∧
      (relayed → s.toNetwork.length < 16 → t.toNetwork = s.toNetwork ++ [r.bytes]) ∧
      (¬ (relayed ∧ s.toNetwork.length < 16) → t.toNetwork = s.toNetwork) ∧
      Raised s t (onlyIf (v.absent = true) .terminalPresent ++
        onlyIf (relayed ∧ 16 ≤ s.toNetwork.length) .relayLost))

/-- PRESENT_REPLY of a terminal that is AWAITING or has an answer waiting: a good reply whose presentation
is discarded with the overrun mark set; one of other than 10 bytes is a good reply and nothing more. From
any other terminal the presentation is decided. When the record has become unconfigured since the poll, the
reply ends the exchange, and there is no decision (R65, R72, R193). -/
def Obligations.PresentReplyIsDiscardedOrDecided : Prop :=
  ∀ (s : State) (r : Reception) (x : Exchange) (f : Frame), GoodReply s r x f → f.kind = 3 →
    let v := s.terminal x.station
    let waits := (∃ n, v.service = .awaiting n) ∨ ∃ a ∈ s.answers, a.terminal = x.station
    (x.stale = true → exec (.presentReply r) s = .next
      { s with exchange := none, tReceiver := .idle }) ∧
    (x.stale = false → ∃ u : State,
      u = { s with
        exchange := none, tReceiver := .idle, terminals := u.terminals, events := u.events
        notices := u.notices } ∧
      (∀ y, u.terminal y = if y = x.station then { v with misses := 0, absent := false }
        else s.terminal y) ∧
      Raised s u (onlyIf (v.absent = true) .terminalPresent) ∧
      (f.payload.length ≠ 10 → exec (.presentReply r) s = .next u) ∧
      (f.payload.length = 10 → waits → exec (.presentReply r) s = .next
        (u.setTerminal x.station { v with misses := 0, absent := false, overrun := true })) ∧
      (f.payload.length = 10 → ¬ waits → exec (.presentReply r) s = .next
        (u.admission ⟨x.station, numAt f.payload 0 1, BitVec.ofNat 64 (numAt f.payload 1 8),
          byteOf (numAt f.payload 9 1)⟩)))

/-- SEND_ANSWER sends the head answer with the overrun mark, and SEND_G_TO_T_RELAY the head relayed frame
unchanged, to a configured PRESENT terminal; either is discarded for any other. The answer's terminal has
its overrun mark clear after it (R66, R67, R168). That a frame queued before its terminal was erased is sent when
the terminal has been configured again is the model's choice (assumption log 37). -/
def Obligations.TPortSendsTheHead : Prop :=
  ∀ s : State, TFree s →
    (∀ (a : Answer) (rest : List Answer), s.answers = a :: rest →
      let v := s.terminal a.terminal
      let base := ({ s with answers := rest } : State).setTerminal a.terminal
        { v with overrun := false }
      exec .sendAnswer s = .next (
        if (s.terminalConfig a.terminal).configured = true ∧ v.absent = false then
          { base with
            tLine := some (composeFrame a.terminal 0 4 (answerBytes a v.overrun))
            tReceiver := .idle }
        else base)) ∧
    (∀ (frame : List Byte) (rest : List (List Byte)), s.answers = [] →
      s.toTerminals = frame :: rest →
      exec .sendGToTRelay s = .next (
        if (s.terminalConfig (numAt frame 0 1)).configured = true ∧
            (s.terminal (numAt frame 0 1)).absent = false then
          { s with toTerminals := rest, tLine := some frame, tReceiver := .idle }
        else { s with toTerminals := rest }))

/-! ## The receivers and the end of a reception -/

/-- A receiver in SYNC that finds the line idle becomes IDLE, and a character on an IDLE receiver begins a
reception, on the T-port within a reply time the poll's reply. A reception that fails its tests raises
LINK_ERRORS; on the T-port a begun reply that fails them, or is not from the polled station to station 0,
ends its exchange in a miss, with TERMINAL_ABSENT at a PRESENT terminal's third, the order of the two events
being the model's choice (assumption log 36); when the record has become unconfigured since the poll it is no
miss. A good T-port frame that is no poll's reply is discarded without an event. A G-port frame whose destination
is not the part's own station and is 0, above 64, or the station of the head-end, of a configured group or of its
own source does nothing; a good one for the part that is discarded for its kind, or an MREQ not from the
head-end, is handed on and does nothing more (R63 to R65, R138, R161, R162, R165, R166). -/
def Obligations.ReceptionsBeginAndEnd : Prop :=
  ∀ s : State, Working s →
    (s.tReceiver = .sync → exec (.receiverIdle .terminal) s = .next { s with tReceiver := .idle }) ∧
    (s.gReceiver = .sync → exec (.receiverIdle .group) s = .next { s with gReceiver := .idle }) ∧
    (s.tReceiver = .idle → exec (.receptionStart .terminal) s = .next { s with
      tReceiver := .receiving
      exchange := s.exchange.map (fun x => { x with begun := true }) }) ∧
    (s.gReceiver = .idle →
      exec (.receptionStart .group) s = .next { s with gReceiver := .receiving }) ∧
    (∀ r : Reception, s.gReceiver = .receiving → judge r = none →
      ∃ t, exec (.receptionEnd .group r) s = .next t ∧ Counted s t .linkErrors ∧
        t = { s with gReceiver := .idle, events := t.events, notices := t.notices }) ∧
    (∀ (r : Reception) (f : Frame), s.gReceiver = .receiving → judge r = some f →
      NotAddressed s f →
      exec (.receptionEnd .group r) s = .next { s with gReceiver := .idle }) ∧
    (∀ (r : Reception) (f : Frame), ForThePart s r f → f.kind ≠ 17 → f.kind ≠ 18 →
      (f.kind = 32 → f.source ≠ s.tables.settings.headEnd) →
      exec (.receptionEnd .group r) s = .next (s.handOn f)) ∧
    (∀ r : Reception, s.tReceiver = .receiving → (∀ x, s.exchange = some x → x.begun = false) →
      (judge r = none → ∃ t, exec (.receptionEnd .terminal r) s = .next t ∧
        Counted s t .linkErrors ∧
        t = { s with tReceiver := .idle, events := t.events, notices := t.notices }) ∧
      (judge r ≠ none →
        exec (.receptionEnd .terminal r) s = .next { s with tReceiver := .idle })) ∧
    (∀ (r : Reception) (x : Exchange), s.tReceiver = .receiving → s.exchange = some x →
      x.begun = true →
      (∀ f, judge r = some f → f.source ≠ x.station ∨ f.destination ≠ 0) →
      let v := s.terminal x.station
      ∃ t, exec (.receptionEnd .terminal r) s = .next t ∧
        t = { s with
          tReceiver := .idle, exchange := none, terminals := t.terminals, events := t.events
          notices := t.notices } ∧
        Raised s t ([.linkErrors] ++
          onlyIf (x.stale = false ∧ v.absent = false ∧ 2 ≤ v.misses) .terminalAbsent) ∧
        (x.stale = true → t.terminals = s.terminals) ∧
        (x.stale = false → ∀ u, t.terminal u = if u ≠ x.station then s.terminal u
          else if v.absent = true then { v with misses := 3 }
          else if 2 ≤ v.misses then { v with misses := 3, absent := true }
          else { v with misses := v.misses + 1 }))

/-! ## The admission decision -/

/-- Stage 0 of a decision, in its order: UNCONFIGURED, SERVICE_SUSPENDED, TERMINAL_HELD, TERMINAL_LATCHED.
The answer is placed and the report queued, and nothing else changes but an overflow's REPORTS_LOST (R78,
R83 to R85, R104, R106, R185). -/
def Obligations.StageZeroTurnsAway : Prop :=
  ∀ (s : State) (p : Presentation) (why : Reason),
    ((s.partState ≠ .running ∧ why = .unconfigured) ∨
      (s.partState = .running ∧ s.mode = .recall ∧ why = .serviceSuspended) ∨
      (s.partState = .running ∧ s.mode = .normal ∧
        (∃ d, (s.terminal p.terminal).service = .held d) ∧ why = .terminalHeld) ∨
      (s.partState = .running ∧ s.mode = .normal ∧
        (s.terminal p.terminal).service = .latched ∧ why = .terminalLatched)) →
    ∃ t, s.admission p = t ∧
      t.answers = s.answers ++ [⟨p.terminal, .denied, some why, none, none, none, false⟩] ∧
      t.reports = reported s ⟨s.moment, s.clock.isSet, p.terminal, none, p.request, none, .denied,
        some why, none⟩ ∧
      (¬ (s.tables.settings.reporting = true ∧ 32 ≤ s.reports.length) →
        t.events = s.events ∧ t.notices = s.notices) ∧
      Raised s t (overflow s) ∧
      t = { s with
        answers := t.answers, reports := t.reports, events := t.events, notices := t.notices }

/-- Stages 1 to 4 of a decision at an IDLE terminal, in their order: the reader word, the facility, the
key, and the entry's state, tenant, validity days and visitor trips. A word is UNREADABLE exactly when its bit
count is not the format's length or, under SPLIT, a half has the wrong parity; any other gives the facility and
the card of the format's fields, a field of length 0 giving 0. Stage 4 passes exactly for an ACTIVE entry
whose tenant is not SUSPENDED, within its days, and that is no VISITOR, has trips left or continues its pass; a
VISITOR without trips that does not continue its pass is denied NO_TRIPS_LEFT, at the transfer landing too
(R33, R69 to R71, R86, R87, R90 to R92). -/
def Obligations.StagesOneToFourInOrder : Prop :=
  ∀ (s : State) (p : Presentation), s.partState = .running → s.mode = .normal →
    (s.terminal p.terminal).service = .idle →
    let c := s.terminalConfig p.terminal
    let format := s.tables.formats.get {} c.format
    let unreadable := Unreadable format p.count p.bits
    let k : BadgeKey := ⟨fieldOf p.bits format.facilityStart format.facilityLength,
      fieldOf p.bits format.cardStart format.cardLength⟩
    (unreadable → s.decision p = ⟨none, none, .deny .unreadable⟩) ∧
    (format.facilityLength = 0 → k.facility = 0) ∧
    (¬ unreadable →
      let accepted := (∀ i ≤ 3, s.tables.facilities.get none i = none) ∨
        ∃ i ≤ 3, ∃ r, s.tables.facilities.get none i = some r ∧ r.base ≤ k.facility ∧
          k.facility < r.base + r.count
      (¬ accepted → s.decision p = ⟨some k, none, .deny .foreignFacility⟩) ∧
      (accepted → s.lookup k = none → s.decision p = ⟨some k, none, .deny .unknownBadge⟩) ∧
      ∀ e, accepted → s.lookup k = some e →
        let continues := ∃ t, Continues s p k e t
        s.decision p = s.decideEntry p k e ∧ (s.decision p).key = some k ∧
        (∀ b : Bool, (b = true ↔ continues) → (s.stage4 e b = none ↔ MayBeUsed s p k e)) ∧
        ((∃ r ∈ [Reason.suspended, .lost, .tenantSuspended, .notYetValid, .expired, .noTripsLeft],
          (s.decision p).ending = .deny r) ↔ ¬ MayBeUsed s p k e) ∧
        (e.state = .suspended → (s.decision p).ending = .deny .suspended) ∧
        (e.state = .lost → (s.decision p).ending = .deny .lost) ∧
        (e.state = .active → TenantHeld s e → (s.decision p).ending = .deny .tenantSuspended) ∧
        (e.state = .active → ¬ TenantHeld s e → Early s e →
          (s.decision p).ending = .deny .notYetValid) ∧
        (e.state = .active → ¬ TenantHeld s e → ¬ Early s e → Late s e →
          (s.decision p).ending = .deny .expired) ∧
        (e.state = .active → ¬ TenantHeld s e → ¬ Early s e → ¬ Late s e → e.cls = .visitor →
          e.trips = some 0 → ¬ continues → (s.decision p).ending = .deny .noTripsLeft) ∧
        ((e.cls ≠ .visitor ∨ (∃ n, e.trips = some (n + 1)) ∨ continues) →
          (s.decision p).ending ≠ .deny .noTripsLeft))

/-- Resolution and stages 5 to 10 for an entry that passes stage 4: a landing request, DEFAULT, and CONTINUE
at the pass's transfer landing; then NO_DEFAULT, BAD_DESTINATION, SAME_LANDING, SERVICE_ONLY, ZONE_LOCKED
and, but for a continuation, the grant, with CLOCK_UNSET for a landing that is not common while the clock is
UNSET and NOT_PERMITTED otherwise. A decision that passes these ends by its route: OTHER_BANK, NO_ROUTE,
RETRY NO_SERVICE; a continuation carries its pass on; any other is a REPEAT exactly when the key's record is
QUEUED, CALLED or ASSIGNED for that landing, and else creates a trip; either is RETRY GROUP_BUSY when the
group's Call Queue is full, a call of the key's own record not counted (R88, R89, R93 to R102). -/
def Obligations.StagesFiveToEightInOrder : Prop :=
  ∀ (s : State) (p : Presentation) (k : BadgeKey) (e : BadgeEntry),
    let c := s.terminalConfig p.terminal
    let origin := c.origin
    let n := p.request.toNat
    let wish := requested s p k e
    let continues := ∃ t, Continues s p k e t
    let count := s.tables.settings.landingCount
    let ending := (s.decideEntry p k e).ending
    MayBeUsed s p k e →
    (s.decideEntry p k e).destination = wish ∧
    (130 ≤ n → ending = .deny .badDestination) ∧
    (n ≤ 129 → wish = none → ending = .deny .noDefault) ∧
    ∀ l, wish = some l →
      let record := s.active.landings.get {} l
      let reserved := record.serviceOnly = true ∧ (e.cls = .staff ∨ e.cls = .visitor)
      let locked := memSet s.zoneLocks record.zone = true ∧ e.cls ≠ .override
      let granted := continues ∨ s.inGrant e l = true
      (count ≤ l → ending = .deny .badDestination) ∧
      (l < count → l = origin → ending = .deny .sameLanding) ∧
      (l < count → l ≠ origin → reserved → ending = .deny .serviceOnly) ∧
      (l < count → l ≠ origin → ¬ reserved → locked → ending = .deny .zoneLocked) ∧
      (l < count → l ≠ origin → ¬ reserved → ¬ locked → ¬ granted →
        ending = if s.clock.isSet = false ∧ record.common = false then .deny .clockUnset
          else .deny .notPermitted) ∧
      (l < count → l ≠ origin → ¬ reserved → ¬ locked → granted → ∀ b : Bool,
        (b = true ↔ continues) →
        let route := s.route c.binding b origin l
        (route = .otherBank → ending = .deny .otherBank) ∧
        (route = .noRoute → ending = .deny .noRoute) ∧
        (route = .noService → ending = .retry .noService) ∧
        (∀ t g, Continues s p k e t → route = .oneLeg g →
          (QueueFull s k g → ending = .retry .groupBusy) ∧
          (¬ QueueFull s k g → ending = .carry t g e.needs)) ∧
        (∀ g via, ¬ continues →
          (route = .oneLeg g ∧ via = none) ∨ (∃ m, route = .twoLegs g m ∧ via = some m) →
          (∀ t, s.tripOfKey k = some t → t.final = l → t.state ≠ .awaitingTransfer →
            ending = .repeated t) ∧
          ((∀ t, s.tripOfKey k = some t → t.final = l → t.state = .awaitingTransfer) →
            (QueueFull s k g → ending = .retry .groupBusy) ∧
            (¬ QueueFull s k g → ending = .create g via e.needs))) ∧
        (continues → ∀ g m, route ≠ .twoLegs g m))

/-- A band of a legal start and length is in force exactly when the clock is SET and the moment lies within
its length counted from its start on some day, today or before, whose day type is in its set; the day type
is HOLIDAY on the days of the active Holiday List and the day of the week on every other (R53 to R55). -/
def Obligations.BandInForceIsASpanOfMinutes : Prop :=
  (∀ (s : State) (b : Band), b.start < 1440 → b.length ≤ 1440 → s.clock.minute < 1440 →
    (s.bandInForce b = true ↔ s.clock.isSet = true ∧
      ∃ day ≤ s.clock.day, memSet b.days (s.dayType day) = true ∧
        day * 1440 + b.start ≤ s.clock.day * 1440 + s.clock.minute ∧
        s.clock.day * 1440 + s.clock.minute < day * 1440 + b.start + b.length)) ∧
  (∀ (s : State) (d : Nat),
    s.dayType d = if ∃ e ∈ s.active.holidays, e.2 = some d then 7
      else (d + s.tables.settings.epochWeekday) % 7)

/-- The grant of an entry, below the landing count: every landing for OVERRIDE; for every other class the
common landings and the landings of the profile's bands in force, these within the tenant's lease for STAFF
and VISITOR with a tenant (R2, R45, R96). -/
def Obligations.GrantOfAnEntry : Prop :=
  ∀ (s : State) (e : BadgeEntry) (l : Nat),
    let band := ∃ slot ≤ 3, ∃ b, s.active.profiles.get none (4 * e.profile + slot) = some b ∧
      s.bandInForce b = true ∧ memSet b.landings l = true
    let limited := (e.cls = .staff ∨ e.cls = .visitor) ∧
      ∃ n, e.tenant = some n ∧ memSet (s.active.tenants.get {} n).lease l = false
    s.inGrant e l = true ↔
      l < s.tables.settings.landingCount ∧
        (e.cls = .override ∨ (s.active.landings.get {} l).common = true ∨ (band ∧ ¬ limited))

/-- The Route Selector. A ROUTED terminal gets one leg on the lowest-numbered group that is IN_SERVICE and
serves both landings; else, not in a continuation, two legs over the first sky lobby in slot order that
joins two groups, which are then different groups; else "no service" when a group of any service state
would have done, and "no route" when none would. A FIXED terminal gets its bound group alone (R14 to
R17). -/
def Obligations.RoutesTakeTheLowestGroup : Prop :=
  ∀ (s : State) (o d : Nat),
    let none1 := ∀ h, ¬ Carries s h o d
    let none2 := ∀ slot l, Lobby s slot l o d → ¬ Bridge (Carries s) l o d
    let any1 := ∃ h, Joins s h o d
    let any2 := ∃ slot l, Lobby s slot l o d ∧ Bridge (Joins s) l o d
    (∀ c g, s.route .routed c o d = .oneLeg g ↔ LowestCarrier s g o d) ∧
    (∀ g l, s.route .routed false o d = .twoLegs g l ↔ none1 ∧ FirstBridge s g l o d) ∧
    (∀ g l, s.route .routed false o d = .twoLegs g l → ∀ h, Carries s h l d → h ≠ g) ∧
    (s.route .routed false o d = .noService ↔ none1 ∧ none2 ∧ (any1 ∨ any2)) ∧
    (s.route .routed false o d = .noRoute ↔ none1 ∧ none2 ∧ ¬ any1 ∧ ¬ any2) ∧
    (s.route .routed true o d = .noService ↔ none1 ∧ any1) ∧
    (s.route .routed true o d = .noRoute ↔ none1 ∧ ¬ any1) ∧
    (∀ g c, s.route (.fixed g) c o d =
      if ¬ (s.serves g o = true ∧ s.serves g d = true) then .otherBank
      else if (s.group g).service ≠ .inService then .noService else .oneLeg g)

/-- A decision that creates a trip. A record that the key has is superseded first; a Trip List that is then
full gives up its oldest settled record, without an answer or an event. The new record joins at the end with the
first number and the first tag after the last issued ones that nothing holds, 65,535 and 4,095 being followed by
1; its call joins the tail of its group's queue, and the presenting terminal is AWAITING it. Nothing else changes
but the report, which a full Report FIFO drops with REPORTS_LOST, after a
supersession's CANCEL_LOST by the model's reading (assumption log 43) (R101, R106, R109, R119, R122, R126, R128,
R185). -/
def Obligations.AdmissionCreatesATrip : Prop :=
  ∀ (s : State) (p : Presentation) (k : BadgeKey) (l g : Nat) (via : Option Nat) (needs : Bool),
    s.decision p = ⟨some k, some l, .create g via needs⟩ → s.trips.length ≤ 512 →
    (∃ tag, 1 ≤ tag ∧ tag ≤ 4095 ∧ TagFree s tag) →
    let origin := (s.terminalConfig p.terminal).origin
    let u := match s.tripOfKey k with
      | some x => s.supersede x
      | none => s
    ∃ t n tag kept, s.admission p = t ∧ Roomed u.trips kept ∧
      Allocated 65535 s.lastTrip (fun m => ∃ x ∈ kept, x.number = m) n ∧
      Allocated 4095 s.lastTag (fun m => ¬ TagFree { u with trips := kept } m) tag ∧
      t = { u.setTerminal p.terminal { u.terminal p.terminal with service := .awaiting n } with
        trips := kept ++ [⟨n, k, p.terminal, origin, l, if via.isSome then 2 else 1, via, 1, g,
          tag, none, .queued, ⟨s.clock.day, s.clock.minute, s.clock.second⟩, none⟩]
        groups := u.groups.set {} g { u.group g with
          queue := (u.group g).queue ++ [⟨g, n, tag, origin, via.getD l, needs,
            if via.isSome then .oneOfTwo else .oneOfOne⟩] }
        lastTrip := n, lastTag := tag
        reports := reported s ⟨s.moment, s.clock.isSet, p.terminal, some k, p.request, some l,
          .admitted, none, some (if via.isSome then 2 else 1)⟩
        events := t.events, notices := t.notices } ∧
      Raised u t (overflow s)

/-- A continuation carries the pass on to its second leg: the record keeps its place, number, key, final
landing and creation moment, takes the first tag after the last issued one that no other settled trip and no
queued or outstanding call of any group holds, 4,095 being followed by 1, and its call joins the second group's
queue with the transfer landing as origin; no record is created, and the report is placed, or dropped with
REPORTS_LOST (R102, R106, R117, R128, R185). -/
def Obligations.ContinuationCarriesThePass : Prop :=
  ∀ (s : State) (p : Presentation) (k : BadgeKey) (l g : Nat) (x : Trip) (needs : Bool),
    s.decision p = ⟨some k, some l, .carry x g needs⟩ →
    (∃ tag, 1 ≤ tag ∧ tag ≤ 4095 ∧ TagFree s tag) →
    s.tripOfKey k = some x ∧ x.state = .awaitingTransfer ∧
      x.transfer = some (s.terminalConfig p.terminal).origin ∧ l = x.final ∧
    ∃ t tag, s.admission p = t ∧
      Allocated 4095 s.lastTag (fun m =>
        ¬ TagFree { s with trips := s.trips.filter (fun y => y.number ≠ x.number) } m) tag ∧
      t = { s.setTerminal p.terminal { s.terminal p.terminal with service := .awaiting x.number } with
        trips := s.trips.map (fun y => if y.number = x.number then
          { y with
            leg := 2, group := g, terminal := p.terminal, origin := y.transfer.getD y.origin
            car := none, expiry := none, state := .queued, tag := tag } else y)
        groups := s.groups.set {} g { s.group g with
          queue := (s.group g).queue ++ [⟨g, x.number, tag, (s.terminalConfig p.terminal).origin,
            x.final, needs, .twoOfTwo⟩] }
        lastTag := tag
        reports := reported s ⟨s.moment, s.clock.isSet, p.terminal, some k, p.request, some l,
          .admitted, none, some 2⟩
        events := t.events, notices := t.notices } ∧
      Raised s t (overflow s)

/-- A decision that ends in REPEAT or RETRY places its answer and its report, with the key, the request and the
resolved destination, and leaves every trip, call and terminal as it was; REPEAT names a QUEUED, CALLED or
ASSIGNED record of the key for the resolved landing, with the car when it is ASSIGNED and the transfer landing
when it has two legs (R99, R100, R104, R106, R185). -/
def Obligations.RepeatAndRetryLeaveTheTrips : Prop :=
  ∀ (s : State) (p : Presentation) (d : Decision), s.decision p = d →
    let report := fun (v : Verdict) (r : Option Reason) =>
      reported s ⟨s.moment, s.clock.isSet, p.terminal, d.key, p.request, d.destination, v, r, none⟩
    (∀ x, d.ending = .repeated x →
      (∃ k, d.key = some k ∧ s.tripOfKey k = some x ∧ d.destination = some x.final ∧
        x.state ≠ .awaitingTransfer) ∧
      ∃ t, s.admission p = t ∧
        t = { s with
          answers := s.answers ++ [⟨p.terminal, .repeated, none, some x.final,
            if x.state = .assigned then x.car else none, if x.legs = 2 then x.transfer else none,
            false⟩]
          reports := report .repeated none, events := t.events, notices := t.notices } ∧
        Raised s t (overflow s)) ∧
    (∀ r, d.ending = .retry r → (r = .noService ∨ r = .groupBusy) ∧
      ∃ t, s.admission p = t ∧
        t = { s with
          answers := s.answers ++ [⟨p.terminal, .retry, some r, d.destination, none, none, false⟩]
          reports := report .retry (some r), events := t.events, notices := t.notices } ∧
        Raised s t (overflow s))

/-- A decision that ends in DENY. A reason that is not counted leaves every terminal as it was. A counted
one raises the tally and starts the decay timer afresh, or, at the effective threshold, which the night
period halves upwards, takes the tally to 0 and the terminal into HELD for the hold time, or into LATCHED
at the latch limit, with its event; the answer carries the held mark exactly then. LOST raises LOST_BADGE_SEEN,
before the hold's event by the model's choice (assumption log 31). The report is placed, or dropped with
REPORTS_LOST, the last of the events by its reading (log 43), and no other kind is raised (R34, R74 to R77, R104,
R106, R185). The night period is in force, with the clock SET and its length not 0, from its start for its
length, wrapping past midnight (R57). -/
def Obligations.CountedDenialsHoldTheTerminal : Prop :=
  ∀ (s : State) (p : Presentation) (r : Reason), (s.decision p).ending = .deny r →
    let counted := r ∈ [Reason.foreignFacility, .unknownBadge, .suspended, .lost,
      .tenantSuspended, .notYetValid, .expired, .noTripsLeft, .serviceOnly, .zoneLocked,
      .notPermitted]
    let c := s.tables.settings
    let v := s.terminal p.terminal
    let tally := min 15 (v.tally + 1)
    let m := s.clock.minute
    let threshold := if s.clock.isSet = true ∧ c.nightLength ≠ 0 ∧
        ((c.nightStart ≤ m ∧ m < c.nightStart + c.nightLength) ∨
          (1440 < c.nightStart + c.nightLength ∧ m < c.nightStart + c.nightLength - 1440)) then
      (c.threshold + 1) / 2 else c.threshold
    ∃ t, s.admission p = t ∧
      t = { s with
        answers := s.answers ++ [⟨p.terminal, .denied, some r, (s.decision p).destination, none, none,
          decide (counted ∧ threshold ≤ tally)⟩]
        terminals := t.terminals
        reports := reported s ⟨s.moment, s.clock.isSet, p.terminal, (s.decision p).key, p.request,
          (s.decision p).destination, .denied, some r, none⟩
        events := t.events, notices := t.notices } ∧
      (∀ u, u ≠ p.terminal → t.terminal u = s.terminal u) ∧
      (¬ counted → t.terminal p.terminal = v) ∧
      (counted → tally < threshold → t.terminal p.terminal = { v with
        tally := tally, decay := some (s.now + decayTime c.decayCode) }) ∧
      (counted → threshold ≤ tally → v.holds + 1 < c.latchLimit →
        t.terminal p.terminal = { v with
          tally := 0, decay := none, holds := v.holds + 1
          service := .held (s.now + (c.holdIndex + 1) * 10000 *
            (if c.extendedHold then 2 else 1)) }) ∧
      (counted → threshold ≤ tally → c.latchLimit ≤ v.holds + 1 →
        t.terminal p.terminal = { v with
          tally := 0, decay := none, holds := v.holds + 1, service := .latched }) ∧
      Raised s t (onlyIf (r = .lost) .lostBadgeSeen ++
        onlyIf (counted ∧ threshold ≤ tally ∧ v.holds + 1 < c.latchLimit) .terminalHeld ++
        onlyIf (counted ∧ threshold ≤ tally ∧ c.latchLimit ≤ v.holds + 1) .terminalLatched ++
        overflow s)

/-- Supersession of a record, by its state: a queued call leaves its queue without a frame; an outstanding
call leaves its table and its tag goes to the Cancel List; the tag of a settled record goes there too. A
terminal that awaits the record is answered DENY SUPERSEDED and becomes IDLE, and the record leaves the
Trip List (R119, R139). -/
def Obligations.SupersessionWithdrawsTheCall : Prop :=
  ∀ (s : State) (x : Trip),
    let t := s.supersede x
    let awaited := (x.state = .queued ∨ x.state = .called) ∧
      (s.terminal x.terminal).service = .awaiting x.number
    t = { s with
      groups := t.groups, cancels := t.cancels, trips := s.trips.filter (fun y => y.number ≠ x.number)
      answers := t.answers, terminals := t.terminals, events := t.events
      notices := t.notices } ∧
    (∀ h, t.group h = if h ≠ x.group then s.group h
      else match x.state with
        | .queued => { s.group h with
            queue := (s.group h).queue.filter (fun c => c.trip ≠ x.number) }
        | .called => { s.group h with
            outstanding := (s.group h).outstanding.filter (fun o => o.call.tag ≠ x.tag) }
        | .assigned | .awaitingTransfer => s.group h) ∧
    t.cancels = (if x.state = .queued then s.cancels
      else listed s.cancels ⟨x.group, x.tag⟩) ∧
    (awaited → t.answers = s.answers ++
        [⟨x.terminal, .denied, some .superseded, some x.final, none, none, false⟩] ∧
      ∀ u, t.terminal u = if u = x.terminal then { s.terminal u with service := .idle }
        else s.terminal u) ∧
    (¬ awaited → t.answers = s.answers ∧ t.terminals = s.terminals) ∧
    ((x.state = .queued ∨ (⟨x.group, x.tag⟩ : Cancel) ∈ s.cancels ∨ s.cancels.length < 32) →
      t.events = s.events ∧ t.notices = s.notices) ∧
    (x.state ≠ .queued → (⟨x.group, x.tag⟩ : Cancel) ∉ s.cancels → 32 ≤ s.cancels.length →
      Counted s t .cancelLost)

/-! ## The Group Port and the Call Exchange -/

/-- A frame handed on leaves the receiver IDLE, and is a sign of life of the group whose station it comes
from: a SILENT group becomes IN_SERVICE with streak 0 and GROUP_RESTORED is raised, and nothing else changes
(R138, R161). -/
def Obligations.FrameIsASignOfLife : Prop :=
  ∀ (s : State) (f : Frame),
    let t := s.handOn f
    t = { s with gReceiver := .idle, groups := t.groups, events := t.events, notices := t.notices } ∧
    ((∀ g, 1 ≤ g → g ≤ 6 → (s.groupConfig g).station = some f.source →
        (s.group g).service ≠ .silent) → t = { s with gReceiver := .idle }) ∧
    (∀ g, 1 ≤ g → g ≤ 6 → (s.groupConfig g).station = some f.source →
      (∀ h, 1 ≤ h → h < g → (s.groupConfig h).station ≠ some f.source) →
      (s.group g).service = .silent → Counted s t .groupRestored ∧
        ∀ h, t.group h = if h = g then { s.group h with service := .inService, streak := 0 }
          else s.group h)

/-- RECEIVE_MREQ puts the payload of a good MREQ from the head-end at the tail of the request FIFO, or
drops it with PORT_OVERRUN; RECEIVE_G_TO_T_RELAY does the same for a frame to a terminal station whose kind
is in the relay set and whose terminal is configured, with RELAY_LOST, and discards any other (R165, R166,
R168). The frame is handed on first. -/
def Obligations.GPortFillsItsFifos : Prop :=
  ∀ (s : State) (r : Reception) (f : Frame), Working s → s.gReceiver = .receiving →
    judge r = some f →
    let u := s.handOn f
    (f.destination = s.tables.settings.ownStation → f.kind = 32 →
      f.source = s.tables.settings.headEnd →
      (s.requests.length < 8 → exec (.receiveMreq r) s = .next
        { u with requests := s.requests ++ [f.payload] }) ∧
      (8 ≤ s.requests.length → ∃ t, exec (.receiveMreq r) s = .next t ∧
        Counted u t .portOverrun ∧ t = { u with events := t.events, notices := t.notices })) ∧
    (1 ≤ f.destination → f.destination ≤ 64 →
      f.destination ≠ s.tables.settings.ownStation → f.destination ≠ s.tables.settings.headEnd →
      (∀ g, 1 ≤ g → g ≤ 6 → (s.groupConfig g).station ≠ some f.destination) →
      f.destination ≠ f.source →
      let wanted := byteOf f.kind ∈ s.tables.settings.gToT ∧
        (s.terminalConfig f.destination).configured = true
      (wanted → s.toTerminals.length < 16 → exec (.receiveGToTRelay r) s = .next
        { u with toTerminals := s.toTerminals ++ [r.bytes] }) ∧
      (wanted → 16 ≤ s.toTerminals.length → ∃ t, exec (.receiveGToTRelay r) s = .next t ∧
        Counted u t .relayLost ∧ t = { u with events := t.events, notices := t.notices }) ∧
      (¬ wanted → exec (.receiveGToTRelay r) s = .next u))

/-- An ASSIGN with a car 1 to 16 for an outstanding tag of its group ends the call: it leaves the table and
the streak becomes 0; its trip becomes ASSIGNED with the repeat guard on its last leg, or AWAITING_TRANSFER
with the transfer window on leg 1 of 2; a repeat guard of 0 removes the record; the terminal awaiting the
trip is answered ADMIT, becomes IDLE and has hold count 0; a first leg takes one trip from a VISITOR's
entry, never below 0. The group of a station, the call of a tag and the trip of a number are those that the
tables hold, the first where several would do (R32, R78, R105, R111, R112, R132, R133). -/
def Obligations.AssignEndsTheCall : Prop :=
  (∀ (s : State) (station g : Nat), s.groupOfStation station = some g ↔
    1 ≤ g ∧ g ≤ 6 ∧ (s.groupConfig g).station = some station ∧
      ∀ h, 1 ≤ h → h < g → (s.groupConfig h).station ≠ some station) ∧
  (∀ (s : State) (g tag : Nat) (o : Outstanding), s.outstandingOf g tag = some o ↔
    ∃ older younger, (s.group g).outstanding = older ++ o :: younger ∧ o.call.tag = tag ∧
      ∀ y ∈ older, y.call.tag ≠ tag) ∧
  (∀ (s : State) (n : Nat) (x : Trip), s.tripOf n = some x ↔
    ∃ older younger, s.trips = older ++ x :: younger ∧ x.number = n ∧ ∀ y ∈ older, y.number ≠ n) ∧
  ∀ (s : State) (r : Reception) (f : Frame) (g : Nat) (o : Outstanding) (x : Trip),
    ForThePart s r f → f.kind = 17 → f.payload.length = 3 →
    let tag := numAt f.payload 0 2
    let car := numAt f.payload 2 1
    s.groupOfStation f.source = some g → 1 ≤ car → car ≤ 16 →
    s.outstandingOf g tag = some o → s.tripOf o.call.trip = some x →
    let u := s.handOn f
    let c := s.tables.settings
    let last := x.legs = 1 ∨ x.leg = 2
    let awaited := (s.terminal x.terminal).service = .awaiting x.number
    ∃ t, exec (.receiveAssign r) s = .next t ∧
      t = { u with
        groups := t.groups, trips := t.trips, answers := t.answers, terminals := t.terminals
        tables := { s.tables with credentials := t.tables.credentials } } ∧
      (∀ h, t.group h = if h = g then { u.group h with
        outstanding := (u.group h).outstanding.filter (fun y => y.call.tag ≠ tag), streak := 0 }
        else u.group h) ∧
      (¬ (last ∧ c.repeatGuard = 0) → t.trips = s.trips.map (fun y =>
        if y.number ≠ x.number then y
        else if y.legs = 1 ∨ y.leg = 2 then
          { y with
            state := .assigned, car := some car, expiry := some (s.now + c.repeatGuard * 1000) }
        else { y with
          state := .awaitingTransfer, car := some car
          expiry := some (s.now + c.transferWindow * 1000) })) ∧
      (last → c.repeatGuard = 0 → t.trips = s.trips.filter (fun y => y.number ≠ x.number)) ∧
      (awaited → t.answers = s.answers ++ [⟨x.terminal, .admitted, none, some x.final, some car,
          if last then none else x.transfer, false⟩] ∧
        ∀ y, t.terminal y = if y = x.terminal then
          { s.terminal y with service := .idle, holds := 0 } else s.terminal y) ∧
      (¬ awaited → t.answers = s.answers ∧ t.terminals = s.terminals) ∧
      ∀ w, t.way w = if x.leg = 1 ∧ s.lookupWay x.key = some w then
        (s.way w).map (fun e => if e.cls = .visitor then
          { e with trips := e.trips.map (fun n => n - 1) } else e)
        else s.way w

/-- An ASSIGN that ends no call: with a car outside 1 to 16, of another length than 3, from no group's
station, or for the tag of a settled trip of the group, it is discarded; any other tag goes to the Cancel
List, with CANCEL_LOST when that is full. No trip, terminal or answer changes; a sign of life is taken
first (R132, R134, R139, R193). -/
def Obligations.UnknownAssignIsCancelled : Prop :=
  ∀ (s : State) (r : Reception) (f : Frame), ForThePart s r f → f.kind = 17 →
    let tag := numAt f.payload 0 2
    let car := numAt f.payload 2 1
    let u := s.handOn f
    (s.groupOfStation f.source = none ∨ f.payload.length ≠ 3 ∨ car = 0 ∨ 16 < car →
      exec (.receiveAssign r) s = .next u) ∧
    (∀ g, s.groupOfStation f.source = some g → f.payload.length = 3 → 1 ≤ car → car ≤ 16 →
      s.outstandingOf g tag = none →
      let settled := ∃ y ∈ s.trips, (y.state = .assigned ∨ y.state = .awaitingTransfer) ∧
        y.tag = tag ∧ y.group = g
      (settled → exec (.receiveAssign r) s = .next u) ∧
      (¬ settled → (⟨g, tag⟩ : Cancel) ∈ s.cancels ∨ s.cancels.length < 32 →
        exec (.receiveAssign r) s = .next { u with cancels := listed s.cancels ⟨g, tag⟩ }) ∧
      (¬ settled → (⟨g, tag⟩ : Cancel) ∉ s.cancels → 32 ≤ s.cancels.length →
        ∃ t, exec (.receiveAssign r) s = .next t ∧ Counted u t .cancelLost ∧
          t = { u with events := t.events, notices := t.notices }))

/-- A DECLINE for an outstanding tag of its group ends the call: it leaves the table, its trip leaves the
Trip List, and the terminal awaiting the trip is answered RETRY, GROUP_BUSY for FULL and NO_SERVICE for
every other reason, and becomes IDLE. The streak and the Cancel List stay. Any other DECLINE is a sign of
life alone (R132, R135, R193). -/
def Obligations.DeclineEndsTheTrip : Prop :=
  ∀ (s : State) (r : Reception) (f : Frame), ForThePart s r f → f.kind = 18 →
    let tag := numAt f.payload 0 2
    let why : Reason := if numAt f.payload 2 1 = 1 then .groupBusy else .noService
    let u := s.handOn f
    (s.groupOfStation f.source = none ∨ f.payload.length ≠ 3 →
      exec (.receiveDecline r) s = .next u) ∧
    (∀ g, s.groupOfStation f.source = some g → s.outstandingOf g tag = none →
      exec (.receiveDecline r) s = .next u) ∧
    (∀ g o x, s.groupOfStation f.source = some g → f.payload.length = 3 →
      s.outstandingOf g tag = some o → s.tripOf o.call.trip = some x →
      let awaited := (s.terminal x.terminal).service = .awaiting x.number
      ∃ t, exec (.receiveDecline r) s = .next t ∧
        t = { u with
          groups := t.groups, trips := s.trips.filter (fun y => y.number ≠ x.number)
          answers := t.answers, terminals := t.terminals } ∧
        (∀ h, t.group h = if h = g then { u.group h with
          outstanding := (u.group h).outstanding.filter (fun y => y.call.tag ≠ tag) }
          else u.group h) ∧
        (awaited → t.answers = s.answers ++
            [⟨x.terminal, .retry, some why, some x.final, none, none, false⟩] ∧
          ∀ y, t.terminal y = if y = x.terminal then { s.terminal y with service := .idle }
            else s.terminal y) ∧
        (¬ awaited → t.answers = s.answers ∧ t.terminals = s.terminals))

/-- ANSWER_TIMEOUT of an outstanding call: the call leaves its table, its tag goes to the Cancel List, its
trip leaves the Trip List and the awaiting terminal is answered RETRY NO_ANSWER; the streak rises by one, up
to 3. At 3 an IN_SERVICE group becomes SILENT, its queue is withdrawn with the queued trips, each terminal that
awaits one of these is answered RETRY NO_SERVICE, in the order of the queue, and becomes IDLE, and GROUP_SILENT
is raised; otherwise its service state and queue stay. A full Cancel List drops the tag with CANCEL_LOST, and no
other kind is raised, the order of the two being read from R136 (assumption log 43). Every other terminal stays
(R136, R137, R139, R141). -/
def Obligations.AnswerTimeoutRaisesTheStreak : Prop :=
  ∀ (s : State) (g tag : Nat) (o : Outstanding) (x : Trip), Working s →
    s.outstandingOf g tag = some o → s.tripOf o.call.trip = some x →
    let v := s.group g
    let falls := v.service = .inService ∧ 2 ≤ v.streak
    let awaited := (s.terminal x.terminal).service = .awaiting x.number
    let first := if awaited then
      [(⟨x.terminal, .retry, some .noAnswer, some x.final, none, none, false⟩ : Answer)] else []
    ∃ t, exec (.answerTimeout g tag) s = .next t ∧
      t = { s with
        now := max s.now o.deadline, groups := t.groups, cancels := listed s.cancels ⟨g, tag⟩
        trips := t.trips, answers := t.answers, terminals := t.terminals, events := t.events
        notices := t.notices } ∧
      (∀ h, h ≠ g → t.group h = s.group h) ∧
      (t.group g).outstanding = v.outstanding.filter (fun y => y.call.tag ≠ tag) ∧
      (t.group g).streak = min 3 (v.streak + 1) ∧
      (¬ falls → (t.group g).service = v.service ∧ (t.group g).queue = v.queue ∧
        t.trips = s.trips.filter (fun y => y.number ≠ x.number) ∧ t.answers = s.answers ++ first ∧
        (∀ u, t.terminal u = if awaited ∧ u = x.terminal then
          { s.terminal u with service := .idle } else s.terminal u)) ∧
      Raised s t (onlyIf ((⟨g, tag⟩ : Cancel) ∉ s.cancels ∧ 32 ≤ s.cancels.length) .cancelLost ++
        onlyIf falls .groupSilent) ∧
      (falls → (t.group g).service = .silent ∧ (t.group g).queue = [] ∧
        t.trips = s.trips.filter (fun y => y.number ≠ x.number ∧
          ∀ q ∈ v.queue, y.number ≠ q.trip) ∧
        AwaitingBecomeIdle s t (x :: tripsOfCalls s v.queue) ∧
        (∃ more, t.answers = s.answers ++ first ++ more ∧
          AnswersInOrder s ((tripsOfCalls s v.queue).filter (fun y => y.number ≠ x.number))
            retryNoService more))

/-- DECAY_EXPIRY takes the tally down by one, the timer starting again while it stays above 0; HOLD_EXPIRY
makes a HELD terminal IDLE with its counts as they were; REPEAT_GUARD_EXPIRY removes an ASSIGNED record and
TRANSFER_WINDOW_EXPIRY a pass. Nothing else changes but the time that has come (R75, R77, R114, R116). -/
def Obligations.TimersExpire : Prop :=
  ∀ (s : State) (d : Nat), Working s →
    let later := { s with now := max s.now d }
    (∀ u, (s.terminal u).decay = some d → exec (.decayExpiry u) s = .next
      (later.setTerminal u { s.terminal u with
        tally := (s.terminal u).tally - 1
        decay := if 1 < (s.terminal u).tally then
          some (max s.now d + decayTime s.tables.settings.decayCode) else none })) ∧
    (∀ u, (s.terminal u).service = .held d → exec (.holdExpiry u) s = .next
      (later.setTerminal u { s.terminal u with service := .idle })) ∧
    ∀ x, s.tripOf x.number = some x → x.expiry = some d →
      let t := { later with trips := s.trips.filter (fun y => y.number ≠ x.number) }
      (x.state = .assigned → exec (.repeatGuardExpiry x.number) s = .next t) ∧
      (x.state = .awaitingTransfer → exec (.transferWindowExpiry x.number) s = .next t)

/-- The arbiter's sources but the CALL, in their order: the Cancel List, the response FIFO, the Notice FIFO,
the T-to-G relay FIFO and the Report FIFO each give their head when every source before them is empty. A
CANCEL for a group without a station is discarded without a frame; the OK of a RESTART lets the restart be
made (R140, R164, R169, R170, R173, R174, R182, R185). The three low bits of a REPORT's flags are the model's
choice (assumption log 41). -/
def Obligations.TransmitterTakesTheHead : Prop :=
  ∀ s : State, TransmitterFree s →
    let own := s.tables.settings.ownStation
    let head := s.tables.settings.headEnd
    (∀ c rest, s.cancels = c :: rest → exec .sendCancel s = .next { s with
      cancels := rest
      gLine := match (s.groupConfig c.group).station with
        | some st => some (composeFrame st own 19 (bytesOfNat 2 c.tag))
        | none => s.gLine }) ∧
    (s.cancels = [] → NoSendableCall s →
      (∀ a rest, s.responses = a :: rest → exec .sendMrsp s = .next { s with
        responses := rest
        restart := if s.restart = .answered ∧ a.operation = 19#8 ∧ a.code = .ok then .transmitted
          else s.restart
        gLine := some (composeFrame head own 33
          ([a.number, a.operation, byteOf (responseCodes.idxOf a.code)] ++ a.data)) }) ∧
      (s.responses = [] →
        (∀ n rest, s.notices = n :: rest → exec .sendNotice s = .next { s with
          notices := rest
          gLine := some (composeFrame head own 34 [byteOf (eventKinds.idxOf n.kind), byteOf n.count]) }) ∧
        (s.notices = [] →
          (∀ frame rest, s.toNetwork = frame :: rest → exec .sendTToGRelay s = .next
            { s with toNetwork := rest, gLine := some frame }) ∧
          (s.toNetwork = [] → ∀ a rest, s.reports = a :: rest → exec .sendReport s = .next
            { s with
              reports := rest, gLine := some (composeFrame head own 35 (reportBytes a)) }))))

/-- SEND_CALL, with the Cancel List empty: the first group after the last-served one, 6 being followed by 1,
that has a sendable CALL sends its head call; the call becomes outstanding with its deadline, its trip
CALLED, and the group the last-served one. Under RECALL no CALL is sent, and no decision creates a trip or
places a call (R84, R110, R129, R131, R171). -/
def Obligations.SendCallTakesTheNextGroup : Prop :=
  (∀ (s : State) (i : Nat) (c : Call) (rest : List Call) (station : Nat), TransmitterFree s →
    s.cancels = [] → i < 6 →
    let g := (s.lastServed + i) % 6 + 1
    SendableCall s g → (∀ j, j < i → ¬ SendableCall s ((s.lastServed + j) % 6 + 1)) →
    (s.group g).queue = c :: rest → (s.groupConfig g).station = some station →
    exec .sendCall s = .next { s with
      groups := s.groups.set {} g { s.group g with
        queue := rest
        outstanding := (s.group g).outstanding ++
          [⟨c, s.now + (s.groupConfig g).timeout * 250⟩] }
      trips := s.trips.map (fun t => if t.number = c.trip then { t with state := .called } else t)
      lastServed := g
      gLine := some (composeFrame station s.tables.settings.ownStation 16
        (bytesOfNat 2 c.tag ++ [byteOf c.origin, byteOf c.destination,
          if c.needs then 1 else 0, match c.marker with
            | .oneOfOne => 1
            | .oneOfTwo => 2
            | .twoOfTwo => 3])) }) ∧
  (∀ s : State, s.mode = .recall → exec .sendCall s = .next s ∧
    ∀ p, (s.admission p).trips = s.trips ∧ (s.admission p).groups = s.groups)

/-! ## Alarm lines, recall and zones -/

/-- ALARM_INPUT_CHANGE of a working part starts the line's debounce timer when the new level is not the
accepted one, with debounce code 0 accepts it at once, and stops the timer when it is; DEBOUNCE_EXPIRY
accepts the level the input holds. Acceptance sets the line state by the trigger, raises ALARM_RAISED when
an unmasked line leaves NORMAL and ALARM_CLEARED when it returns to NORMAL, and lets the building mode follow,
with recall entry or RECALL_LEFT when the mode changes; the other lines stay, and no other kind is raised (R142,
R146 to R149, R152, R155, R156, R158). The order of the events of one acceptance is read from R155 (assumption log
43). -/
def Obligations.AlarmInputsAreDebounced : Prop :=
  ∀ (s : State) (k : Nat) (v : Level), Working s →
    let c := s.lineConfig k
    let l := s.line k
    let moved := { s with inputs := s.inputs.set .high k v }
    let isActive := fun x : Option Level => decide (x = some (if c.activeLow then .low else .high))
    let follows := fun t : State =>
      (∀ j, j ≠ k → t.line j = s.line j) ∧
      t.line k = { l with
        accepted := some v, timer := none
        status :=
          if isActive l.accepted = false ∧ isActive (some v) = true then
            (if c.edge then .latched else .active)
          else if isActive l.accepted = true ∧ isActive (some v) = false ∧ c.edge = false then
            .normal
          else l.status } ∧
      Raised s t (
        onlyIf (c.mask = false ∧ l.status = .normal ∧ (t.line k).status ≠ .normal) .alarmRaised ++
        onlyIf (c.mask = false ∧ l.status ≠ .normal ∧ (t.line k).status = .normal) .alarmCleared ++
        modeEvents s t) ∧
      WorkFollowsMode s t ∧
      (t.mode = .recall ↔ s.recallFlag = true ∨ ∃ j ≤ 7, (t.line j).status ≠ .normal ∧
        (s.lineConfig j).mask = false ∧ (s.lineConfig j).action = .recall)
    (k ≤ 7 → s.input k ≠ v →
      (l.accepted = some v → exec (.alarmInputChange k v) s = .next
        (moved.setLine k { l with timer := none })) ∧
      (l.accepted ≠ some v → c.debounce ≠ 0 → exec (.alarmInputChange k v) s = .next
        (moved.setLine k { l with timer := some (s.now + debounceTime c.debounce) })) ∧
      (l.accepted ≠ some v → c.debounce = 0 →
        ∃ t, exec (.alarmInputChange k v) s = .next t ∧ follows t ∧
          t = { moved with
            lines := t.lines, mode := t.mode, groups := t.groups, cancels := t.cancels
            trips := t.trips, answers := t.answers, terminals := t.terminals
            events := t.events, notices := t.notices } ∧
          (t.mode = s.mode →
            t = { moved with lines := t.lines, events := t.events, notices := t.notices }))) ∧
    (∀ d, l.timer = some d → s.input k = v →
      ∃ t, exec (.debounceExpiry k) s = .next t ∧ follows t ∧
        t = { s with
          now := max s.now d
          lines := t.lines, mode := t.mode, groups := t.groups, cancels := t.cancels
          trips := t.trips, answers := t.answers, terminals := t.terminals
          events := t.events, notices := t.notices } ∧
        (t.mode = s.mode →
          t = { s with
            now := max s.now d, lines := t.lines, events := t.events, notices := t.notices }))

/-- ENTER_RECALL in NORMAL makes recall entry: every queued and outstanding call, every trip and every
Cancel List entry is discarded, each terminal that awaits a trip is answered DENY SERVICE_SUSPENDED in the
order of the Trip List and every AWAITING terminal becomes IDLE, RECALL_ENTERED is raised, and the registers,
service states and FIFOs stay. In RECALL it sets the flag alone. LEAVE_RECALL clears the flag, and with no
line in force that calls for it ends RECALL with RECALL_LEFT (R142, R155, R156, R158). -/
def Obligations.RecallClearsTheWorkInHand : Prop :=
  ∀ (s : State) (p : List Byte) (rest : List (List Byte)),
    let a := answered s p rest .ok []
    let called := ∃ k ≤ 7, (s.line k).status ≠ .normal ∧ (s.lineConfig k).mask = false ∧
      (s.lineConfig k).action = .recall
    let awaited := fun x : Trip => (s.terminal x.terminal).service = .awaiting x.number
    let reply := fun x : Trip =>
      (⟨x.terminal, .denied, some .serviceSuspended, some x.final, none, none, false⟩ : Answer)
    (Commanded s p rest 29 6 → s.mode = .recall →
      exec .enterRecall s = .next { a with recallFlag := true }) ∧
    (Commanded s p rest 29 6 → s.mode = .normal → Canonical s →
      ∃ t, exec .enterRecall s = .next t ∧
        t = { a with
          recallFlag := true, mode := .recall, trips := [], cancels := [], groups := t.groups
          answers := t.answers, terminals := t.terminals, events := t.events
          notices := t.notices } ∧
        (∀ g, t.group g = { s.group g with queue := [], outstanding := [] }) ∧
        (∀ u, t.terminal u = match (s.terminal u).service with
          | .awaiting _ => { s.terminal u with service := .idle }
          | .idle | .held _ | .latched => s.terminal u) ∧
        (∃ more, t.answers = s.answers ++ more ∧ more.Sublist (s.trips.map reply) ∧
          (∀ x ∈ s.trips, awaited x → ∃ b ∈ more, b.terminal = x.terminal) ∧
          (more.map (fun b => b.terminal)).Nodup ∧
          ∀ b ∈ more, ∃ x ∈ s.trips, awaited x ∧ b = reply x) ∧
        Counted s t .recallEntered) ∧
    (Commanded s p rest 30 6 →
      ((s.mode = .normal ∧ ¬ called) ∨ (s.mode = .recall ∧ called) →
        exec .leaveRecall s = .next { a with recallFlag := false }) ∧
      (s.mode = .recall → ¬ called → ∃ t, exec .leaveRecall s = .next t ∧
        Counted s t .recallLeft ∧
        t = { a with
          recallFlag := false, mode := .normal, events := t.events, notices := t.notices }))

/-- A write of a line's configuration takes effect at once. All six fields are stored, the debounce code
clamped; accepted level and debounce timer stay; the line state follows a change of trigger, taken first
under the old polarity, and of polarity, read anew from the accepted level. Of an unmasked line, by the new
mask, each step that leaves NORMAL raises ALARM_RAISED and each that returns to it ALARM_CLEARED; a masked line
raises neither. The building mode follows, with recall entry or RECALL_LEFT when it changes. ERASE does the
same with the reset contents (R142, R145, R151, R152, R155, R156, R158, R176). That the response to a WRITE
carries the six configuration fields and no dynamic state is the model's reading (assumption log 8), and that the
alarm events come before those of the mode is read from R155 (log 43). -/
def Obligations.AlarmLineWriteTakesEffect : Prop :=
  ∀ (s : State) (p : List Byte) (rest : List (List Byte)),
    let k := numAt p 8 2
    let old := s.lineConfig k
    let l := s.line k
    let activeAt := fun low : Bool => decide (l.accepted = some (if low then .low else .high))
    let retriggered := fun edge : Bool =>
      if edge = old.edge then l.status
      else if edge then (if l.status = .active then .latched else l.status)
      else if activeAt old.activeLow then .active else .normal
    let becomes := fun (t : State) (new : LineConfig) (code : Code) (data : List Byte) =>
      t = { answered s p rest code data with
        tables := { s.tables with alarmLines := t.tables.alarmLines }
        lines := t.lines, mode := t.mode, groups := t.groups, cancels := t.cancels
        trips := t.trips, answers := t.answers, terminals := t.terminals
        events := t.events, notices := t.notices } ∧
      (t.mode = s.mode → t = { answered s p rest code data with
        tables := { s.tables with alarmLines := t.tables.alarmLines }
        lines := t.lines, events := t.events, notices := t.notices }) ∧
      (∀ j, t.lineConfig j = if j = k then new else s.lineConfig j) ∧
      (∀ j, j ≠ k → t.line j = s.line j) ∧
      let between := retriggered new.edge
      let ends := if activeAt old.activeLow = false ∧ activeAt new.activeLow = true then
          (if new.edge then .latched else .active)
        else if activeAt old.activeLow = true ∧ activeAt new.activeLow = false ∧
            new.edge = false then .normal
        else between
      t.line k = { l with status := ends } ∧
      Raised s t (
        onlyIf (new.mask = false ∧ l.status = .normal ∧ between ≠ .normal) .alarmRaised ++
        onlyIf (new.mask = false ∧ l.status ≠ .normal ∧ between = .normal) .alarmCleared ++
        onlyIf (new.mask = false ∧ between = .normal ∧ ends ≠ .normal) .alarmRaised ++
        onlyIf (new.mask = false ∧ between ≠ .normal ∧ ends = .normal) .alarmCleared ++
        modeEvents s t) ∧
      WorkFollowsMode s t ∧
      (t.mode = .recall ↔ s.recallFlag = true ∨ ∃ j ≤ 7, (t.line j).status ≠ .normal ∧
        (t.lineConfig j).mask = false ∧ (t.lineConfig j).action = .recall)
    (Changing s p rest 3 11 17 →
      (7 < k → exec .writeAlarmLine s = .next (answered s p rest .badIndex [])) ∧
      (k ≤ 7 → 1 < numAt p 10 1 ∨ 1 < numAt p 11 1 ∨ 1 < numAt p 13 1 ∨ 2 < numAt p 14 1 →
        exec .writeAlarmLine s = .next (answered s p rest .badField [])) ∧
      (k ≤ 7 → numAt p 10 1 ≤ 1 → numAt p 11 1 ≤ 1 → numAt p 13 1 ≤ 1 → numAt p 14 1 ≤ 2 →
        let action : AlarmAction := if numAt p 14 1 = 0 then .notify
          else if numAt p 14 1 = 1 then .lockZones else .recall
        ∃ t, exec .writeAlarmLine s = .next t ∧ becomes t
          ⟨numAt p 10 1 = 1, numAt p 11 1 = 1, min 3 (numAt p 12 1), numAt p 13 1 = 1, action,
            BitVec.ofNat 16 (numAt p 15 2)⟩
          (if 3 < numAt p 12 1 then .okClamped else .ok)
          ([byteOf (numAt p 10 1), byteOf (numAt p 11 1), byteOf (min 3 (numAt p 12 1)),
            byteOf (numAt p 13 1), byteOf (numAt p 14 1)] ++ bytesOfNat 2 (numAt p 15 2)))) ∧
    (Changing s p rest 4 11 10 →
      (7 < k → exec .eraseAlarmLine s = .next (answered s p rest .badIndex [])) ∧
      (k ≤ 7 → ∃ t, exec .eraseAlarmLine s = .next t ∧
        becomes t ⟨true, false, 1, true, .notify, 0⟩ .ok []))

/-- LOCK_ZONES adds the zones it carries to the management lock set and UNLOCK_ZONES removes them; a zone is
locked when it is in that set or in the zone set of a line in force with action LOCK_ZONES (R153, R154). -/
def Obligations.ZonesAreLockedAndUnlocked : Prop :=
  ∀ s : State,
    (∀ z, memSet s.zoneLocks z = true ↔ memSet s.lockSet z = true ∨
      ∃ k ≤ 7, (s.line k).status ≠ .normal ∧ (s.lineConfig k).mask = false ∧
        (s.lineConfig k).action = .lockZones ∧ memSet (s.lineConfig k).zones z = true) ∧
    ∀ (p : List Byte) (rest : List (List Byte)),
      let carried : ZoneSet := BitVec.ofNat 16 (numAt p 6 2)
      (Commanded s p rest 25 8 → ∃ t, exec .lockZones s = .next t ∧
        t = { answered s p rest .ok [] with lockSet := t.lockSet } ∧
        ∀ z, memSet t.lockSet z = (memSet s.lockSet z || memSet carried z)) ∧
      (Commanded s p rest 26 8 → ∃ t, exec .unlockZones s = .next t ∧
        t = { answered s p rest .ok [] with lockSet := t.lockSet } ∧
        ∀ z, memSet t.lockSet z = (memSet s.lockSet z && !memSet carried z))

/-! ## The image store and the operating commands -/

/-- The four steps of a save. Each verified step goes on to the next, the first making the image INVALID;
the last makes it VALID with the snapshot and the next sequence, the store IDLE, and raises SAVE_DONE. A
step that fails leaves the image INVALID, the held sequence as it was and the store IDLE, and raises
SAVE_FAILED (R188). -/
def Obligations.SaveGoesThroughItsSteps : Prop :=
  ∀ (s : State) (tabs : Tables),
    let failed := fun t : State => Counted s t .saveFailed ∧
      t = { s with saving := none, image := none, events := t.events, notices := t.notices }
    let sequence := if s.imageSequence % 65536 = 65535 then 0 else s.imageSequence % 65536 + 1
    (s.saving = some ⟨.clearMark, tabs⟩ →
      exec (.saveMarkCleared true) s = .next
        { s with image := none, saving := some ⟨.eraseSectors, tabs⟩ } ∧
      ∃ t, exec (.saveMarkCleared false) s = .next t ∧ failed t) ∧
    (s.saving = some ⟨.eraseSectors, tabs⟩ →
      exec (.saveSectorsErased true) s = .next
        { s with saving := some ⟨.programTables, tabs⟩ } ∧
      ∃ t, exec (.saveSectorsErased false) s = .next t ∧ failed t) ∧
    (s.saving = some ⟨.programTables, tabs⟩ →
      exec (.saveTablesProgrammed true) s = .next { s with saving := some ⟨.writeMark, tabs⟩ } ∧
      ∃ t, exec (.saveTablesProgrammed false) s = .next t ∧ failed t) ∧
    (s.saving = some ⟨.writeMark, tabs⟩ →
      (∃ t, exec (.saveMarkWritten true) s = .next t ∧ Counted s t .saveDone ∧
        t = { s with
          saving := none, image := some ⟨sequence, tabs⟩, imageSequence := sequence
          events := t.events, notices := t.notices }) ∧
      ∃ t, exec (.saveMarkWritten false) s = .next t ∧ failed t)

/-- SWITCH_BANKS exchanges the roles of the banks and neither's contents; COPY_ACTIVE_TO_STANDBY makes the
standby bank equal to the active one, which stays; SAVE_IMAGE begins a save of the tables as they stand, the
active bank first (R40 to R42, R188). -/
def Obligations.BanksAndSnapshots : Prop :=
  ∀ (s : State) (p : List Byte) (rest : List (List Byte)), s.saving = none →
    let a := answered s p rest .ok []
    (Commanded s p rest 16 6 →
      (∃ t, exec .switchBanks s = .next t ∧ t = { a with activeBank := t.activeBank } ∧
        t.activeBank ≠ s.activeBank ∧ t.active = s.standby ∧ t.standby = s.active)) ∧
    (Commanded s p rest 17 6 →
      ∃ t, exec .copyActiveToStandby s = .next t ∧
        t = { a with tables := { s.tables with
          bankA := t.tables.bankA, bankB := t.tables.bankB } } ∧
        t.active = s.active ∧ t.standby = s.active) ∧
    (Commanded s p rest 18 6 →
      exec .saveImage s = .next { a with
        saving := some ⟨.clearMark, { s.tables with bankA := s.active, bankB := s.standby }⟩ })

/-- RESTART is answered OK and then waits for its response to be sent; START_SERVICE makes an UNCONFIGURED
part RUNNING and changes nothing else; SET_SITE_CODE gives a BLANK or SET record the new code and the state
SET, and is refused LOCKED by a LOCKED one (R173, R178, R191). -/
def Obligations.RestartServiceAndSiteCode : Prop :=
  ∀ (s : State) (p : List Byte) (rest : List (List Byte)),
    (Commanded s p rest 19 6 →
      exec .restart s = .next { answered s p rest .ok [] with restart := .answered }) ∧
    (Commanded s p rest 20 6 →
      exec .startService s = .next { answered s p rest .ok [] with partState := .running }) ∧
    (Commanded s p rest 22 10 →
      exec .setSiteCode s = .next (
        if s.siteCode.state = .locked then answered s p rest .locked []
        else { answered s p rest .ok [] with
          siteCode := ⟨BitVec.ofNat 32 (numAt p 6 4), .set⟩ }))

/-- RELEASE_TERMINAL clears the tally and the hold count and makes a HELD or LATCHED terminal IDLE; ACK_LINE
makes a LATCHED line that is not active NORMAL, with ALARM_CLEARED when it is unmasked, and is refused
STILL_ACTIVE by one that is active, the building mode following; CLEAR_EVENTS clears the kinds it names. An
index outside its table is BAD_INDEX, a kind above 19 BAD_FIELD (R79, R150, R155, R156, R158, R183, R193). The
order of ALARM_CLEARED and the mode's event is read from R155 (assumption log 43). -/
def Obligations.ReleaseAcknowledgeAndClear : Prop :=
  ∀ (s : State) (p : List Byte) (rest : List (List Byte)),
    let n := numAt p 6 1
    (Commanded s p rest 23 7 →
      exec .releaseTerminal s = .next (
        if 1 ≤ n ∧ n ≤ 64 then
          (answered s p rest .ok []).setTerminal n { s.terminal n with
            tally := 0, decay := none, holds := 0
            service := match (s.terminal n).service with
              | .held _ | .latched | .idle => .idle
              | .awaiting x => .awaiting x }
        else answered s p rest .badIndex [])) ∧
    (Commanded s p rest 24 7 →
      let c := s.lineConfig n
      let isActive := (s.line n).accepted = some (if c.activeLow then .low else .high)
      (7 < n → exec .ackLine s = .next (answered s p rest .badIndex [])) ∧
      (n ≤ 7 → (s.line n).status ≠ .latched →
        exec .ackLine s = .next (answered s p rest .ok [])) ∧
      (n ≤ 7 → (s.line n).status = .latched → isActive →
        exec .ackLine s = .next (answered s p rest .stillActive [])) ∧
      (n ≤ 7 → (s.line n).status = .latched → ¬ isActive →
        ∃ t, exec .ackLine s = .next t ∧
          t = { answered s p rest .ok [] with
            lines := t.lines, mode := t.mode, groups := t.groups, cancels := t.cancels
            trips := t.trips, answers := t.answers, terminals := t.terminals
            events := t.events, notices := t.notices } ∧
          (t.mode = s.mode → t = { answered s p rest .ok [] with
            lines := t.lines, events := t.events, notices := t.notices }) ∧
          (∀ j, t.line j = if j = n then { s.line j with status := .normal } else s.line j) ∧
          Raised s t (onlyIf (c.mask = false) .alarmCleared ++ modeEvents s t) ∧
          WorkFollowsMode s t ∧
          (t.mode = .recall ↔ s.recallFlag = true ∨ ∃ j ≤ 7, (t.line j).status ≠ .normal ∧
            (s.lineConfig j).mask = false ∧ (s.lineConfig j).action = .recall))) ∧
    (Commanded s p rest 31 9 →
      (numAt p 6 3 % 16 ≠ 0 → exec .clearEvents s = .next (answered s p rest .badField [])) ∧
      (numAt p 6 3 % 16 = 0 → ∃ t, exec .clearEvents s = .next t ∧
        t = { answered s p rest .ok [] with events := t.events } ∧
        ∀ k, t.event k = if (numAt p 6 3).testBit (23 - k.number) then ⟨false, 0⟩
          else s.event k))

/-- HOLD_GROUP makes a group HELD and withdraws its queued calls: their trips leave, each terminal awaiting
one is answered RETRY NO_SERVICE, in the order of the queue, and becomes IDLE, and every other terminal stays;
in HELD it changes nothing. RESUME_GROUP makes a HELD or SILENT group IN_SERVICE with streak 0. A number outside
1 to 6 is BAD_INDEX (R11, R12, R141). -/
def Obligations.HoldAndResumeAGroup : Prop :=
  ∀ (s : State) (p : List Byte) (rest : List (List Byte)),
    let g := numAt p 6 1
    let v := s.group g
    let a := answered s p rest .ok []
    (Commanded s p rest 27 7 →
      (g = 0 ∨ 6 < g → exec .holdGroup s = .next (answered s p rest .badIndex [])) ∧
      (1 ≤ g → g ≤ 6 → v.service = .held → exec .holdGroup s = .next a) ∧
      (1 ≤ g → g ≤ 6 → v.service ≠ .held → ∃ t, exec .holdGroup s = .next t ∧
        t = { a with
          groups := t.groups, answers := t.answers, terminals := t.terminals
          trips := s.trips.filter (fun y => ∀ q ∈ v.queue, y.number ≠ q.trip) } ∧
        (∀ h, t.group h = if h = g then { v with service := .held, queue := [] }
          else s.group h) ∧
        AwaitingBecomeIdle s t (tripsOfCalls s v.queue) ∧
        ∃ more, t.answers = s.answers ++ more ∧
          AnswersInOrder s (tripsOfCalls s v.queue) retryNoService more)) ∧
    (Commanded s p rest 28 7 →
      (g = 0 ∨ 6 < g → exec .resumeGroup s = .next (answered s p rest .badIndex [])) ∧
      (1 ≤ g → g ≤ 6 → v.service = .inService → exec .resumeGroup s = .next a) ∧
      (1 ≤ g → g ≤ 6 → v.service ≠ .inService → exec .resumeGroup s = .next
        (a.setGroup g { v with service := .inService, streak := 0 })))

/-! ## Reading and undefined requests -/

/-- READ, FIND and READ_STATUS need no site code and change nothing but the FIFOs and the model's counter of
free bytes. READ returns the record, slot or item of each of the fourteen tables as it stands, or the mark of
an empty one, and refuses an index outside its table and, of a policy table, a bank byte above 1; FIND gives
the entry and its way or NOT_FOUND; READ_STATUS the status record (R27, R28, R39, R61, R125, R145, R159, R174,
R180). The model's own: the bytes of absent fields of a badge entry are free, counted by the model (assumption
log 10, 24), its three low bits 0 (log 40); the order of the fields of a tenant, of the dynamic part of a terminal,
an alarm line and a group, and of the building record (log 9); 0 seconds for a trip whose expiry is overdue
(log 28); the order of a relay set (log 13); the building record is read whatever the index (log 42). -/
def Obligations.ReadsChangeNothing : Prop :=
  ∀ (s : State) (p : List Byte) (rest : List (List Byte)),
    let n := numAt p 8 2
    let table := numAt p 6 1
    let gives := fun data : List Byte => exec .read s = .next (answered s p rest .ok data)
    let refuses := fun c : Code => exec .read s = .next (answered s p rest c [])
    (Asked s p rest 1 10 → 1 ≤ table → table ≤ 14 →
      (∃ c d free, exec .read s = .next { answered s p rest c d with freeCount := free }) ∧
      (∀ i lo hi, (i, lo, hi) ∈ [(1, 0, 16383), (2, 0, 1023), (3, 0, 63), (4, 0, 31), (5, 0, 127),
          (6, 1, 6), (7, 0, 3), (8, 1, 64), (9, 0, 7), (10, 0, 3), (11, 0, 7), (12, 0, 15),
          (13, 0, 511)] →
        table = i → n < lo ∨ hi < n → refuses .badIndex) ∧
      (table = 1 → n ≤ 16383 → s.way n = none → gives [255#8]) ∧
      (table = 1 → n ≤ 16383 → ∀ e, s.way n = some e → exec .read s = .next
        { answered s p rest .ok (entryBytes e s.freeCount) with freeCount := s.freeCount + 4 }) ∧
      (∀ i hi, (i, hi) ∈ [(2, 1023), (3, 63), (4, 31), (5, 127)] → table = i → n ≤ hi →
        1 < numAt p 7 1 → refuses .badField) ∧
      (numAt p 7 1 ≤ 1 →
        let bank := s.bank (if numAt p 7 1 = 0 then .a else .b)
        (table = 2 → n ≤ 1023 → gives (match bank.profiles.get none n with
          | some b => [BitVec.ofNat 8 b.days.toNat] ++ bytesOfNat 2 b.start ++
            bytesOfNat 2 b.length ++ bytesOfNat 16 b.landings.toNat
          | none => [255#8])) ∧
        (table = 3 → n ≤ 63 → let v := bank.tenants.get {} n
          gives (bytesOfNat 16 v.lease.toNat ++ ([if v.suspended then 1 else 0] : List Byte))) ∧
        (table = 4 → n ≤ 31 → gives (match bank.holidays.get none n with
          | some d => bytesOfNat 2 d
          | none => [255#8])) ∧
        (table = 5 → n ≤ 127 → let l := bank.landings.get {} n
          gives [byteOf l.zone, if l.common then 1 else 0, if l.serviceOnly then 1 else 0])) ∧
      (table = 6 → 1 ≤ n → n ≤ 6 → let c := s.groupConfig n
        gives ([match c.station with
            | some st => byteOf st
            | none => 255] ++ bytesOfNat 16 c.served.toNat ++
          [byteOf c.limit, byteOf c.timeout, match (s.group n).service with
            | .inService => 0
            | .silent => 1
            | .held => 2, byteOf (s.group n).streak])) ∧
      (table = 7 → n ≤ 3 → gives (match s.tables.skyLobbies.get none n with
        | some l => [byteOf l]
        | none => [255#8])) ∧
      (table = 8 → 1 ≤ n → n ≤ 64 → let c := s.terminalConfig n; let v := s.terminal n
        gives ([if c.configured then 1 else 0, byteOf c.origin, byteOf c.format, match c.binding with
            | .routed => 0
            | .fixed g => byteOf g, if v.absent then 1 else 0, byteOf v.misses] ++
          (match v.service with
            | .idle => ([0, 0, 0] : List Byte)
            | .awaiting x => ([1] : List Byte) ++ bytesOfNat 2 x
            | .held _ => [2, 0, 0]
            | .latched => [3, 0, 0]) ++
          [if v.overrun then 1 else 0, byteOf v.tally, byteOf v.holds])) ∧
      (table = 9 → n ≤ 7 → let f := s.tables.formats.get {} n
        gives [byteOf f.length, byteOf f.facilityStart, byteOf f.facilityLength,
          byteOf f.cardStart, byteOf f.cardLength, if f.split then 1 else 0]) ∧
      (table = 10 → n ≤ 3 → gives (match s.tables.facilities.get none n with
        | some r => bytesOfNat 2 r.base ++ bytesOfNat 3 r.count
        | none => [255#8])) ∧
      (table = 11 → n ≤ 7 → let c := s.lineConfig n; let l := s.line n
        gives ([if c.activeLow then 1 else 0, if c.edge then 1 else 0, byteOf c.debounce,
            if c.mask then 1 else 0, match c.action with
            | .notify => 0
            | .lockZones => 1
            | .recall => 2] ++ bytesOfNat 2 c.zones.toNat ++
          ([match l.accepted with
            | some .low => 0
            | some .high => 1
            | none => 255, if l.timer ≠ none then 1 else 0, match l.status with
            | .normal => 0
            | .active => 1
            | .latched => 2, if l.status ≠ .normal ∧ c.mask = false then 1 else 0] : List Byte))) ∧
      (table = 12 → n ≤ 15 → gives ((settingValues s.tables.settings).getD n [])) ∧
      (table = 13 → n ≤ 511 → s.trips.length ≤ n → gives [255#8]) ∧
      (table = 13 → n ≤ 511 → ∀ x, s.trips[n]? = some x → gives (tripRecordBytes s.now x)) ∧
      (table = 14 → gives (bytesOfNat 2 s.lockSet.toNat ++
        ([if s.recallFlag then 1 else 0, if s.mode = .recall then 1 else 0] : List Byte) ++
        bytesOfNat 2 s.zoneLocks.toNat))) ∧
    (Asked s p rest 2 16 → table = 1 →
      let k : BadgeKey := ⟨numAt p 10 2, numAt p 12 4⟩
      (s.lookupWay k = none → exec .find s = .next (answered s p rest .notFound [])) ∧
      (∀ w e, s.lookupWay k = some w → s.way w = some e → exec .find s = .next
        { answered s p rest .ok (entryBytes e s.freeCount ++ bytesOfNat 2 w) with
          freeCount := s.freeCount + 4 })) ∧
    (Asked s p rest 5 6 →
      exec .readStatus s = .next (answered s p rest .ok
        (([if s.partState = .running then 1 else 2,
          if s.saving ≠ none then 3 else if s.image ≠ none then 1 else 2] : List Byte) ++
          bytesOfNat 2 s.imageSequence ++ bytesOfNat 2 s.clock.day ++
          bytesOfNat 2 s.clock.minute ++
          ([byteOf s.clock.second, if s.clock.isSet then 1 else 0,
            if s.activeBank = .a then 0 else 1] : List Byte) ++
          bytesOfNat 2 s.population ++ bytesOfNat 2 s.trips.length ++
          ([match s.siteCode.state with
            | .blank => 0
            | .set => 1
            | .locked => 2] : List Byte) ++
          bytesOfNat 3 ((eventKinds.map (fun k =>
            flag (2 ^ (23 - eventKinds.idxOf k)) ((s.event k).raised = true))).sum) ++
          bytesOfNat 3 s.tables.settings.enables.toNat ++
          eventKinds.map (fun k => byteOf (s.event k).count))))

/-- The refusals that come before a request's own checks. A request shorter than its operation's fixed fields is
BAD_FIELD whatever else it carries. UNDEFINED_OPERATION answers an operation that the part does not define
BAD_FIELD, and BAD_TABLE for a table that it does not define or that does not accept the operation, a WRITE
or ERASE having passed the checks of the site code and the save. A wrong site code changes nothing but
AUTH_FAILED and is answered NOT_AUTHORIZED, for every operation but READ, FIND and READ_STATUS, a WRITE or ERASE
of a table that does not accept it among them; a request that changes a table or the image, or is such a WRITE or
ERASE, is answered BUSY during a save, and changes nothing (R175, R177, R193). The model's
own: a FIND of a table that does not accept it needs its 16 bytes first (assumption log 12), the two bytes that a
request of fewer does not have are free in its answer (log 11), a Settings item above 15 is taken to have one
byte (log 39), a relay set's kinds are no fixed field (log 14). -/
def Obligations.RefusedRequestsChangeNothing : Prop :=
  ∀ (s : State) (p : List Byte) (rest : List (List Byte)),
    let table := numAt p 6 1
    let undefinedIs := fun c : Code =>
      exec .undefinedOperation s = .next (answered s p rest c [])
    let strange := fun op : Nat => (op = 1 ∧ (table = 0 ∨ 15 ≤ table)) ∨ (op = 2 ∧ table ≠ 1) ∨
      (op = 3 ∧ (table = 0 ∨ 13 ≤ table)) ∨ (op = 4 ∧ (table = 0 ∨ 12 ≤ table))
    (Working s → s.requests = p :: rest → s.responses.length < 4 → s.restart = .none →
      (p.length < 2 → ∃ number operation free, (p.length = 1 → number = p.getD 0 0) ∧
        exec .undefinedOperation s = .next { s with
          requests := rest, responses := s.responses ++ [⟨number, operation, .badField, []⟩]
          freeCount := free }) ∧
      (2 ≤ p.length → ∀ o ∈ readings ++ changes ++ orders, numAt p 1 1 = o.code →
        (∀ n, o.table = some n → table = n) →
        p.length < (if o.command = .writeSettings then 11 else o.need) →
        exec o.command s = .next (answered s p rest .badField [])) ∧
      (numAt p 1 1 = 3 → table = 12 → ∀ item need, (item, need) ∈ [(4, 14), (11, 12), (13, 13)] →
        10 ≤ p.length → numAt p 8 2 = item → p.length < need →
        exec .writeSettings s = .next (answered s p rest .badField [])) ∧
      (2 ≤ p.length → strange (numAt p 1 1) → p.length < (if numAt p 1 1 = 2 then 16 else 10) →
        undefinedIs .badField) ∧
      (2 ≤ p.length → numAt p 1 1 = 0 ∨ (6 ≤ numAt p 1 1 ∧ numAt p 1 1 ≤ 15) ∨ 32 ≤ numAt p 1 1 →
        undefinedIs .badField)) ∧
    (∀ op bad, (op, bad) ∈ [(3, 13), (4, 12)] → Asked s p rest op 10 → table = 0 ∨ bad ≤ table →
      (BitVec.ofNat 32 (numAt p 2 4) ≠ s.siteCode.code →
        ∃ t, exec .undefinedOperation s = .next t ∧ Counted s t .authFailed ∧
          t = { answered s p rest .notAuthorized [] with
            events := t.events, notices := t.notices }) ∧
      (Commanded s p rest op 10 → s.saving ≠ none → undefinedIs .busy)) ∧
    (∀ op, Asked s p rest op 6 → op = 0 ∨ (6 ≤ op ∧ op ≤ 15) ∨ 32 ≤ op → undefinedIs .badField) ∧
    (Asked s p rest 1 10 → table = 0 ∨ 15 ≤ table → undefinedIs .badTable) ∧
    (Asked s p rest 2 16 → table ≠ 1 → undefinedIs .badTable) ∧
    (Commanded s p rest 3 10 → s.saving = none → table = 0 ∨ 13 ≤ table →
      undefinedIs .badTable) ∧
    (Commanded s p rest 4 10 → s.saving = none → table = 0 ∨ 12 ≤ table →
      undefinedIs .badTable) ∧
    ∀ o : Operation, (∀ n, o.table = some n → table = n) →
      (o ∈ changes ++ orders → Asked s p rest o.code (o.needOf p) →
        BitVec.ofNat 32 (numAt p 2 4) ≠ s.siteCode.code →
        ∃ t, exec o.command s = .next t ∧ Counted s t .authFailed ∧
          t = { answered s p rest .notAuthorized [] with
            events := t.events, notices := t.notices }) ∧
      (o ∈ changes → Commanded s p rest o.code (o.needOf p) → s.saving ≠ none →
        exec o.command s = .next (answered s p rest .busy []))

/-! ## The tables -/

/-- A WRITE to the Credential Table stores the entry it carries, without trips for a class other than
VISITOR, in the way that holds its key, else in the lowest empty way of the key's bucket, the population
rising by one; a full bucket is BUCKET_FULL and a field out of range BAD_FIELD. ERASE empties the key's way,
or answers NOT_FOUND. A removal, or a stored state SUSPENDED or LOST, drops the key's waiting pass (R23 to
R26, R29). The model's own: in the response the bytes of absent fields are free, counted by the model (assumption
log 10, 24), and the three low bits of the last byte are ignored in the request and 0 in the response (log 40). -/
def Obligations.CredentialsAreWrittenAndErased : Prop :=
  ∀ (s : State) (p : List Byte) (rest : List (List Byte)),
    let dropped := fun k : BadgeKey =>
      s.trips.filter (fun t => ¬ (t.key = k ∧ t.state = .awaitingTransfer))
    (Changing s p rest 3 1 26 →
      let raw := entryIn p
      let e := { raw with trips := if raw.cls = .visitor then raw.trips else none }
      let good := (∀ n, raw.tenant = some n → n ≤ 63) ∧
        (∀ l, raw.defaultLanding = some l → l ≤ 127) ∧
        (∀ d, raw.endDay = some d → raw.startDay ≤ d) ∧
        (raw.cls = .visitor → ∃ n, raw.trips = some (n + 1))
      let stored := fun (w population : Nat) => ∃ t, exec .writeCredential s = .next t ∧
        (∀ v, t.way v = if v = w then some e else s.way v) ∧
        t = { answered s p rest .ok (entryBytes e s.freeCount) with
          tables := { s.tables with credentials := t.tables.credentials }
          population := population, freeCount := s.freeCount + 4
          trips := if e.state = .active then s.trips else dropped e.key }
      (¬ good → exec .writeCredential s = .next (answered s p rest .badField [])) ∧
      (good → ∀ w, s.lookupWay e.key = some w → stored w s.population) ∧
      (good → s.lookupWay e.key = none → ∀ w, w / 4 = bucketOf e.key → s.way w = none →
        (∀ v, v / 4 = bucketOf e.key → v < w → s.way v ≠ none) →
        stored w (s.population + 1)) ∧
      (good → s.lookupWay e.key = none → (∀ v, v / 4 = bucketOf e.key → s.way v ≠ none) →
        exec .writeCredential s = .next (answered s p rest .bucketFull []))) ∧
    (Changing s p rest 4 1 16 →
      let k : BadgeKey := ⟨numAt p 10 2, numAt p 12 4⟩
      (s.lookupWay k = none →
        exec .eraseCredential s = .next (answered s p rest .notFound [])) ∧
      (∀ w, s.lookupWay k = some w → ∃ t, exec .eraseCredential s = .next t ∧
        (∀ v, t.way v = if v = w then none else s.way v) ∧
        t = { answered s p rest .ok [] with
          tables := { s.tables with credentials := t.tables.credentials }
          population := s.population - 1, trips := dropped k }))

/-- In a sound Credential Table a lookup yields exactly the entry that holds the key, wherever it stands,
and not found when none does; the bucket is the exact sum of R20 modulo 4,096 (R20, R21). -/
def Obligations.LookupFindsTheEntry : Prop :=
  (∀ k : BadgeKey,
    bucketOf k = (k.card + 5 * (k.card / 4096) + 3 * k.facility) % 4096 ∧ bucketOf k ≤ 4095) ∧
  ∀ s : State, CredentialTableSound s → ∀ k : BadgeKey,
    (∀ e, s.lookup k = some e ↔ e.key = k ∧ ∃ w, s.way w = some e) ∧
    (∀ w, s.lookupWay k = some w ↔ ∃ e, e.key = k ∧ s.way w = some e) ∧
    (s.lookup k = none ↔ ∀ w e, s.way w = some e → e.key ≠ k)

/-- A WRITE to a policy table stores the record it carries in the standby bank, at its index, and in no other
place: a band with its length clamped, a tenant, a holiday, a landing. An ERASE gives the record there its
reset contents. A request with an index outside its table is BAD_INDEX, one with a field out of range
BAD_FIELD. No other record of either bank changes (R4, R39, R44, R46, R47, R176, R193). That a tenant's lease
comes before its state, in a WRITE and in its response, is the model's reading (assumption log 9). -/
def Obligations.PolicyTablesAreWrittenInStandby : Prop :=
  (∀ (s : State) (p : List Byte) (rest : List (List Byte)),
    let i := numAt p 8 2
    let byte := fun n => numAt p n 1
    let stored := fun (c : Instr) (t : State) (code : Code) (data : List Byte) =>
      exec c s = .next t ∧ t.active = s.active ∧
        t = { answered s p rest code data with tables := { s.tables with
          bankA := t.tables.bankA, bankB := t.tables.bankB } }
    let refused := fun (c : Instr) (code : Code) => exec c s = .next (answered s p rest code [])
    (Changing s p rest 3 2 31 →
      let start := numAt p 11 2
      let length := numAt p 13 2
      let b : Band := ⟨BitVec.ofNat 8 (byte 10), start, min 1440 length,
        BitVec.ofNat 128 (numAt p 15 16)⟩
      (1023 < i → refused .writeProfile .badIndex) ∧
      (i ≤ 1023 → 1440 ≤ start ∨ length = 0 → refused .writeProfile .badField) ∧
      (i ≤ 1023 → start < 1440 → 1 ≤ length → ∃ t,
        stored .writeProfile t (if 1440 < length then .okClamped else .ok)
          ([byteOf (byte 10)] ++ bytesOfNat 2 start ++ bytesOfNat 2 (min 1440 length) ++
            bytesOfNat 16 b.landings.toNat) ∧
        t.standby = { s.standby with profiles := t.standby.profiles } ∧
        ∀ j, t.standby.profiles.get none j =
          if j = i then some b else s.standby.profiles.get none j)) ∧
    (Changing s p rest 3 3 27 →
      let v : Tenant := ⟨BitVec.ofNat 128 (numAt p 10 16), byte 26 = 1⟩
      (63 < i → refused .writeTenant .badIndex) ∧
      (i ≤ 63 → 1 < byte 26 → refused .writeTenant .badField) ∧
      (i ≤ 63 → byte 26 ≤ 1 → ∃ t, stored .writeTenant t .ok
          (bytesOfNat 16 v.lease.toNat ++ [byteOf (byte 26)]) ∧
        t.standby = { s.standby with tenants := t.standby.tenants } ∧
        ∀ j, t.standby.tenants.get {} j =
          if j = i then v else s.standby.tenants.get {} j)) ∧
    (Changing s p rest 3 4 12 →
      (31 < i → refused .writeHoliday .badIndex) ∧
      (i ≤ 31 → ∃ t, stored .writeHoliday t .ok (bytesOfNat 2 (numAt p 10 2)) ∧
        t.standby = { s.standby with holidays := t.standby.holidays } ∧
        ∀ j, t.standby.holidays.get none j =
          if j = i then some (numAt p 10 2) else s.standby.holidays.get none j)) ∧
    (Changing s p rest 3 5 13 →
      let v : Landing := ⟨byte 10, byte 11 = 1, byte 12 = 1⟩
      (127 < i → refused .writeLanding .badIndex) ∧
      (i ≤ 127 → 15 < byte 10 ∨ 1 < byte 11 ∨ 1 < byte 12 → refused .writeLanding .badField) ∧
      (i ≤ 127 → byte 10 ≤ 15 → byte 11 ≤ 1 → byte 12 ≤ 1 → ∃ t,
        stored .writeLanding t .ok [byteOf (byte 10), byteOf (byte 11), byteOf (byte 12)] ∧
        t.standby = { s.standby with landings := t.standby.landings } ∧
        ∀ j, t.standby.landings.get {} j =
          if j = i then v else s.standby.landings.get {} j))) ∧
  (∀ (s : State) (p : List Byte) (rest : List (List Byte)),
    let i := numAt p 8 2
    let erased := fun (c : Instr) (t : State) =>
      exec c s = .next t ∧ t.active = s.active ∧
        t = { answered s p rest .ok [] with tables := { s.tables with
          bankA := t.tables.bankA, bankB := t.tables.bankB } }
    let refused := fun (c : Instr) => exec c s = .next (answered s p rest .badIndex [])
    (Changing s p rest 4 2 10 →
      (1023 < i → refused .eraseProfile) ∧
      (i ≤ 1023 → ∃ t, erased .eraseProfile t ∧
        t.standby = { s.standby with profiles := t.standby.profiles } ∧
        ∀ j, t.standby.profiles.get none j =
          if j = i then none else s.standby.profiles.get none j)) ∧
    (Changing s p rest 4 3 10 →
      (63 < i → refused .eraseTenant) ∧
      (i ≤ 63 → ∃ t, erased .eraseTenant t ∧
        t.standby = { s.standby with tenants := t.standby.tenants } ∧
        ∀ j, t.standby.tenants.get {} j =
          if j = i then ⟨0, false⟩ else s.standby.tenants.get {} j)) ∧
    (Changing s p rest 4 4 10 →
      (31 < i → refused .eraseHoliday) ∧
      (i ≤ 31 → ∃ t, erased .eraseHoliday t ∧
        t.standby = { s.standby with holidays := t.standby.holidays } ∧
        ∀ j, t.standby.holidays.get none j =
          if j = i then none else s.standby.holidays.get none j)) ∧
    (Changing s p rest 4 5 10 →
      (127 < i → refused .eraseLanding) ∧
      (i ≤ 127 → ∃ t, erased .eraseLanding t ∧
        t.standby = { s.standby with landings := t.standby.landings } ∧
        ∀ j, t.standby.landings.get {} j =
          if j = i then ⟨0, false, false⟩ else s.standby.landings.get {} j)))

/-- A WRITE to the Group Table stores station, served set, limit and timeout, these clamped, and leaves the
group's service state, streak and calls; a station outside 1 to 126, the own or the head-end station, or one
of another group, is BAD_FIELD. ERASE gives the reset contents and IN_SERVICE with streak 0, and is BUSY
while the group has calls in hand or a settled trip. A Sky Lobby List slot takes a landing up to 127 or
becomes empty (R6 to R8, R13, R176). That the response to a WRITE of a group carries its four configuration
fields and no service state or streak is the model's reading (assumption log 8). -/
def Obligations.GroupsAndLobbiesAreWritten : Prop :=
  ∀ (s : State) (p : List Byte) (rest : List (List Byte)),
    let i := numAt p 8 2
    let refused := fun (c : Instr) (code : Code) => exec c s = .next (answered s p rest code [])
    (Changing s p rest 3 6 29 →
      let station := numAt p 10 1
      let limit := numAt p 27 1
      let timeout := numAt p 28 1
      let g : GroupConfig := ⟨some station, BitVec.ofNat 128 (numAt p 11 16),
        max 1 (min 16 limit), max 1 (min 32 timeout)⟩
      let good := 1 ≤ station ∧ station ≤ 126 ∧ station ≠ s.tables.settings.ownStation ∧
        station ≠ s.tables.settings.headEnd ∧
        ∀ h, 1 ≤ h → h ≤ 6 → h ≠ i → (s.groupConfig h).station ≠ some station
      (i = 0 ∨ 6 < i → refused .writeGroup .badIndex) ∧
      (1 ≤ i → i ≤ 6 → ¬ good → refused .writeGroup .badField) ∧
      (1 ≤ i → i ≤ 6 → good → ∃ t, exec .writeGroup s = .next t ∧
        (∀ h, t.groupConfig h = if h = i then g else s.groupConfig h) ∧
        t = { answered s p rest
            (if 1 ≤ limit ∧ limit ≤ 16 ∧ 1 ≤ timeout ∧ timeout ≤ 32 then .ok else .okClamped)
            ([byteOf station] ++ bytesOfNat 16 g.served.toNat ++ [byteOf g.limit, byteOf g.timeout]) with
          tables := { s.tables with groups := t.tables.groups } })) ∧
    (Changing s p rest 4 6 10 →
      let busy := (s.group i).queue ≠ [] ∨ (s.group i).outstanding ≠ [] ∨
        ∃ x ∈ s.trips, (x.state = .assigned ∨ x.state = .awaitingTransfer) ∧ x.group = i
      (i = 0 ∨ 6 < i → refused .eraseGroup .badIndex) ∧
      (1 ≤ i → i ≤ 6 → busy → refused .eraseGroup .busy) ∧
      (1 ≤ i → i ≤ 6 → ¬ busy → ∃ t, exec .eraseGroup s = .next t ∧
        (∀ h, t.groupConfig h = if h = i then ⟨none, 0, 4, 8⟩ else s.groupConfig h) ∧
        (∀ h, t.group h = if h = i then ⟨.inService, 0, [], []⟩ else s.group h) ∧
        t = { answered s p rest .ok [] with
          tables := { s.tables with groups := t.tables.groups }, groups := t.groups })) ∧
    (Changing s p rest 3 7 11 →
      (3 < i → refused .writeSkyLobby .badIndex) ∧
      (i ≤ 3 → 127 < numAt p 10 1 → refused .writeSkyLobby .badField) ∧
      (i ≤ 3 → numAt p 10 1 ≤ 127 → ∃ t, exec .writeSkyLobby s = .next t ∧
        (∀ j, t.tables.skyLobbies.get none j =
          if j = i then some (numAt p 10 1) else s.tables.skyLobbies.get none j) ∧
        t = { answered s p rest .ok [byteOf (numAt p 10 1)] with
          tables := { s.tables with skyLobbies := t.tables.skyLobbies } })) ∧
    (Changing s p rest 4 7 10 →
      (3 < i → refused .eraseSkyLobby .badIndex) ∧
      (i ≤ 3 → ∃ t, exec .eraseSkyLobby s = .next t ∧
        (∀ j, t.tables.skyLobbies.get none j =
          if j = i then none else s.tables.skyLobbies.get none j) ∧
        t = { answered s p rest .ok [] with
          tables := { s.tables with skyLobbies := t.tables.skyLobbies } }))

/-- A WRITE to the Terminal Table configures the station; a record that was unconfigured takes the dynamic
values of R59, a configured one keeps its own. ERASE makes the record unconfigured with those values and
marks a poll in progress of the station, changes nothing in an unconfigured record, and is BUSY while the
terminal is AWAITING (R60, R61, R65, R193). The model's own: the response to a WRITE carries the three fields and
no dynamic part (assumption log 8), and the mark stays on the exchange when the station is written again (log
16). -/
def Obligations.TerminalsAreWrittenAndErased : Prop :=
  ∀ (s : State) (p : List Byte) (rest : List (List Byte)),
    let i := numAt p 8 2
    let byte := fun n => numAt p n 1
    let refused := fun (c : Instr) (code : Code) => exec c s = .next (answered s p rest code [])
    (Changing s p rest 3 8 13 →
      (i = 0 ∨ 64 < i → refused .writeTerminal .badIndex) ∧
      (1 ≤ i → i ≤ 64 → 127 < byte 10 ∨ 7 < byte 11 ∨ 6 < byte 12 →
        refused .writeTerminal .badField) ∧
      (1 ≤ i → i ≤ 64 → byte 10 ≤ 127 → byte 11 ≤ 7 → byte 12 ≤ 6 →
        ∃ t, exec .writeTerminal s = .next t ∧
          (∀ u, t.terminalConfig u = if u = i then
            ⟨true, byte 10, byte 11, if byte 12 = 0 then .routed else .fixed (byte 12)⟩
            else s.terminalConfig u) ∧
          (∀ u, t.terminal u = if u = i ∧ (s.terminalConfig i).configured = false then
            ⟨false, 0, .idle, false, 0, none, 0⟩ else s.terminal u) ∧
          t = { answered s p rest .ok [byteOf (byte 10), byteOf (byte 11), byteOf (byte 12)] with
            tables := { s.tables with terminals := t.tables.terminals }
            terminals := t.terminals })) ∧
    (Changing s p rest 4 8 10 →
      (i = 0 ∨ 64 < i → refused .eraseTerminal .badIndex) ∧
      (1 ≤ i → i ≤ 64 → (∃ n, (s.terminal i).service = .awaiting n) →
        refused .eraseTerminal .busy) ∧
      (1 ≤ i → i ≤ 64 → (∀ n, (s.terminal i).service ≠ .awaiting n) →
        ((s.terminalConfig i).configured = false → refused .eraseTerminal .ok) ∧
        ((s.terminalConfig i).configured = true → ∃ t, exec .eraseTerminal s = .next t ∧
          (∀ u, t.terminalConfig u = if u = i then ⟨false, 0, 0, .routed⟩
            else s.terminalConfig u) ∧
          (∀ u, t.terminal u = if u = i then ⟨false, 0, .idle, false, 0, none, 0⟩
            else s.terminal u) ∧
          t = { answered s p rest .ok [] with
            tables := { s.tables with terminals := t.tables.terminals }
            terminals := t.terminals
            exchange := s.exchange.map (fun x => if x.station = i then
              { x with stale := true } else x) })))

/-- A WRITE to the Format Table or the Facility Ranges stores the record it carries, and ERASE gives the
reset contents, at the index alone; a format whose fields do not fit its length, or reach a parity bit under
SPLIT, and a range count outside 1 to 65,536 are BAD_FIELD (R68, R71, R193). A field start above 63 is
BAD_FIELD by the model's choice (assumption log 15). -/
def Obligations.FormatsAndRangesAreWritten : Prop :=
  ∀ (s : State) (p : List Byte) (rest : List (List Byte)),
    let i := numAt p 8 2
    let byte := fun n => numAt p n 1
    let refused := fun (c : Instr) (code : Code) => exec c s = .next (answered s p rest code [])
    (Changing s p rest 3 9 16 →
      let n := byte 10
      let clear := fun start length => length = 0 ∨ (1 ≤ start ∧ start + length ≤ n - 1)
      let good := 26 ≤ n ∧ n ≤ 64 ∧ byte 12 ≤ 16 ∧ 1 ≤ byte 14 ∧ byte 14 ≤ 32 ∧ byte 15 ≤ 1 ∧
        byte 11 ≤ 63 ∧ byte 13 ≤ 63 ∧ byte 11 + byte 12 ≤ n ∧ byte 13 + byte 14 ≤ n ∧
        (byte 15 = 1 → clear (byte 11) (byte 12) ∧ clear (byte 13) (byte 14))
      (7 < i → refused .writeFormat .badIndex) ∧
      (i ≤ 7 → ¬ good → refused .writeFormat .badField) ∧
      (i ≤ 7 → good → ∃ t, exec .writeFormat s = .next t ∧
        (∀ j, t.tables.formats.get {} j = if j = i then
          ⟨n, byte 11, byte 12, byte 13, byte 14, byte 15 = 1⟩ else s.tables.formats.get {} j) ∧
        t = { answered s p rest .ok [byteOf n, byteOf (byte 11), byteOf (byte 12),
            byteOf (byte 13), byteOf (byte 14), byteOf (byte 15)] with
          tables := { s.tables with formats := t.tables.formats } })) ∧
    (Changing s p rest 4 9 10 →
      (7 < i → refused .eraseFormat .badIndex) ∧
      (i ≤ 7 → ∃ t, exec .eraseFormat s = .next t ∧
        (∀ j, t.tables.formats.get {} j = if j = i then ⟨26, 1, 8, 9, 16, true⟩
          else s.tables.formats.get {} j) ∧
        t = { answered s p rest .ok [] with
          tables := { s.tables with formats := t.tables.formats } })) ∧
    (Changing s p rest 3 10 15 →
      let count := numAt p 12 3
      (3 < i → refused .writeFacilityRange .badIndex) ∧
      (i ≤ 3 → count = 0 ∨ 65536 < count → refused .writeFacilityRange .badField) ∧
      (i ≤ 3 → 1 ≤ count → count ≤ 65536 → ∃ t, exec .writeFacilityRange s = .next t ∧
        (∀ j, t.tables.facilities.get none j = if j = i then some ⟨numAt p 10 2, count⟩
          else s.tables.facilities.get none j) ∧
        t = { answered s p rest .ok (bytesOfNat 2 (numAt p 10 2) ++ bytesOfNat 3 count) with
          tables := { s.tables with facilities := t.tables.facilities } })) ∧
    (Changing s p rest 4 10 10 →
      (3 < i → refused .eraseFacilityRange .badIndex) ∧
      (i ≤ 3 → ∃ t, exec .eraseFacilityRange s = .next t ∧
        (∀ j, t.tables.facilities.get none j = if j = i then none
          else s.tables.facilities.get none j) ∧
        t = { answered s p rest .ok [] with
          tables := { s.tables with facilities := t.tables.facilities } }))

/-- A WRITE to the Settings record changes the one item it names: timing and count settings and the landing
count are clamped into their ranges, structural ones refused BAD_FIELD outside theirs; a relay set holds at
most 16 kinds and no handled one (R1, R53, R57, R80, R113, R167, R176, R179). A kind carried twice is kept
once (assumption log 13). -/
def Obligations.SettingsItemsAreWritten : Prop :=
  ∀ (s : State) (p : List Byte) (rest : List (List Byte)),
    let i := numAt p 8 2
    let c := s.tables.settings
    let n := numAt p 10 1
    let w := numAt p 10 2
    let stored := fun (new : Settings) (code : Code) (data : List Byte) =>
      exec .writeSettings s = .next { answered s p rest code data with
        tables := { s.tables with settings := new } }
    let clamped := fun (lo hi v : Nat) => if lo ≤ v ∧ v ≤ hi then Code.ok else Code.okClamped
    let into := fun (lo hi v : Nat) => max lo (min hi v)
    let badField := exec .writeSettings s = .next (answered s p rest .badField [])
    let free := fun (v other : Nat) => 1 ≤ v ∧ v ≤ 126 ∧ v ≠ other ∧
      ∀ g, 1 ≤ g → g ≤ 6 → (s.groupConfig g).station ≠ some v
    let kinds := (p.drop 11).take n
    let relayed := n ≤ 16 ∧ kinds.length = n ∧
      ∀ k ∈ kinds, k.toNat ∉ [1, 2, 3, 4, 16, 17, 18, 19, 32, 33, 34, 35]
    Changing s p rest 3 12 11 → (i = 4 → 14 ≤ p.length) → (i = 11 → 12 ≤ p.length) →
      (i = 13 → 13 ≤ p.length) →
      (15 < i → exec .writeSettings s = .next (answered s p rest .badIndex [])) ∧
      (i = 0 → (free n c.headEnd → stored { c with ownStation := n } .ok [byteOf n]) ∧
        (¬ free n c.headEnd → badField)) ∧
      (i = 1 → (free n c.ownStation → stored { c with headEnd := n } .ok [byteOf n]) ∧
        (¬ free n c.ownStation → badField)) ∧
      (i = 2 → stored { c with landingCount := into 2 128 n } (clamped 2 128 n)
        [byteOf (into 2 128 n)]) ∧
      (i = 3 → (n ≤ 6 → stored { c with epochWeekday := n } .ok [byteOf n]) ∧
        (6 < n → badField)) ∧
      (i = 4 → let l := numAt p 12 2
        (w < 1440 → stored { c with nightStart := w, nightLength := min 1440 l }
          (clamped 0 1440 l) (bytesOfNat 2 w ++ bytesOfNat 2 (min 1440 l))) ∧
        (1440 ≤ w → badField)) ∧
      (i = 5 → stored { c with threshold := into 2 15 n } (clamped 2 15 n)
        [byteOf (into 2 15 n)]) ∧
      (i = 6 → stored { c with decayCode := min 3 n } (clamped 0 3 n) [byteOf (min 3 n)]) ∧
      (i = 7 → stored { c with latchLimit := into 1 7 n } (clamped 1 7 n)
        [byteOf (into 1 7 n)]) ∧
      (i = 8 → stored { c with holdIndex := min 15 n } (clamped 0 15 n) [byteOf (min 15 n)]) ∧
      (i = 9 → (n ≤ 1 → stored { c with extendedHold := n = 1 } .ok [byteOf n]) ∧
        (1 < n → badField)) ∧
      (i = 10 → stored { c with repeatGuard := min 60 n } (clamped 0 60 n) [byteOf (min 60 n)]) ∧
      (i = 11 → stored { c with transferWindow := into 30 900 w } (clamped 30 900 w)
        (bytesOfNat 2 (into 30 900 w))) ∧
      (i = 12 → (n ≤ 1 → stored { c with reporting := n = 1 } .ok [byteOf n]) ∧
        (1 < n → badField)) ∧
      (i = 13 → (numAt p 10 3 % 16 = 0 → stored
          { c with enables := BitVec.ofNat 24 (numAt p 10 3) } .ok
          (bytesOfNat 3 (numAt p 10 3))) ∧
        (numAt p 10 3 % 16 ≠ 0 → badField)) ∧
      (i = 14 → (relayed → stored { c with gToT := kinds.eraseDups } .ok
          (byteOf kinds.eraseDups.length :: kinds.eraseDups)) ∧
        (¬ relayed → badField)) ∧
      (i = 15 → (relayed → stored { c with tToG := kinds.eraseDups } .ok
          (byteOf kinds.eraseDups.length :: kinds.eraseDups)) ∧
        (¬ relayed → badField))

/-! ## What every step keeps -/

/-- No command but SWITCH_BANKS, the resets and the end of LOADING changes the contents of the active bank,
and only SWITCH_BANKS and the resets change which bank is active (R38, R39). -/
def Obligations.ActiveBankIsNotWritten : Prop :=
  ∀ (c : Instr) (s t : State), exec c s = .next t →
    c ∉ [Instr.switchBanks, .fullResetEnd, .restartMade] →
    t.activeBank = s.activeBank ∧ (c ≠ .loadingEnd → t.active = s.active)

/-- A reception is judged good exactly when it passes every test of R162: its stop bits, at least 6 bytes, a
length field of at most 56 that the number of bytes exceeds by 6, and the check of R163 over all but the last two
bytes equal to those two. The good frame has its fields at their places (R160, 12.1). The check is that of R163 for
every run of bytes. A frame that the part composes, of at most 56 payload bytes and with fields of one byte, is
good and gives the fields it was composed of (R164). Numbers travel with their most significant byte first, and a
set has its member 0 in the most significant bit (12, 12.1). -/
def Obligations.ComposedFramesAreGood : Prop :=
  (∀ r : Reception, judge r = none ↔ FailsATest r) ∧
  (∀ (r : Reception) (f : Frame), judge r = some f →
    f = ⟨numAt r.bytes 0 1, numAt r.bytes 1 1, numAt r.bytes 2 1, (r.bytes.drop 4).dropLast.dropLast⟩ ∧
    f.payload.length = numAt r.bytes 3 1) ∧
  (∀ bs : List Byte, (checkOf bs).toNat = checkOfBytes bs) ∧
  (∀ (destination source kind : Nat) (payload : List Byte), destination ≤ 255 → source ≤ 255 →
    kind ≤ 255 → payload.length ≤ 56 →
    let covered := [byteOf destination, byteOf source, byteOf kind, byteOf payload.length] ++ payload
    composeFrame destination source kind payload = covered ++ bytesOfNat 2 (checkOfBytes covered) ∧
    judge ⟨composeFrame destination source kind payload, true⟩ =
      some ⟨destination, source, kind, payload⟩) ∧
  (∀ (bs : List Byte) (i k : Nat), i + k < bs.length →
    numAt bs i 0 = 0 ∧ numAt bs i (k + 1) = (bs.getD i 0).toNat * 256 ^ k + numAt bs (i + 1) k) ∧
  (∀ k n : Nat, (bytesOfNat k n).length = k ∧ numAt (bytesOfNat k n) 0 k = n % 256 ^ k) ∧
  ∀ (w : Nat) (members : BitVec w) (i : Nat), i < w →
    memSet members i = members.toNat.testBit (w - 1 - i)

/-- The state after reset has every invariant that the statements below say is kept: no FIFO holds
anything, the clock stands at day 0, and every table is at its reset contents (R48, R107, R143, R190). -/
def Obligations.ResetHasTheInvariants : Prop :=
  ClockInRange State.reset ∧ FifosWithin State.reset ∧ Canonical State.reset ∧
    CredentialTableSound State.reset ∧ TerminalsSound State.reset ∧ ModeFollows State.reset ∧
    OneTripPerKey State.reset

/-- Every step keeps the Week Clock's second within 0 to 59, its minute within 0 to 1,439 and its day number
within 0 to 65,535 (R48). -/
def Obligations.ClockStaysInRange : Prop := Kept ClockInRange

/-- Once the site code is LOCKED every step leaves it LOCKED and unchanged, and no step takes a SET record
back to BLANK (R178). -/
def Obligations.LockedSiteCodeStays : Prop :=
  ∀ s t : State, step s = .next t →
    (s.siteCode.state = .locked → t.siteCode = s.siteCode) ∧
    (s.siteCode.state ≠ .blank → t.siteCode.state ≠ .blank)

/-- Every step keeps each FIFO, the answer FIFO among them, the Cancel List, the Call Queues, the Outstanding Call
Tables and the Trip List within its capacity. What keeps the last of these there is part of what is kept: a
terminal has at most one answer waiting and none while AWAITING, a trip is QUEUED or CALLED exactly while its call
stands in its group's queue or table, and no two trips have one number or tag (R67, R107, R109, R126 to R128, R139,
R166, R168, R169, R173, R182, R185). -/
def Obligations.FifosStayWithin : Prop := Kept FifosWithin

/-- Every step keeps every indexed table in canonical form (assumption log 23). -/
def Obligations.TablesStayCanonical : Prop := Kept Canonical

/-- Every step keeps the Credential Table sound: no key in two ways, each entry in its key's bucket, and the
population count equal to the occupied ways, at most 16,384 (R18, R35). -/
def Obligations.CredentialTableStaysSound : Prop := Kept CredentialTableSound

/-- Every step keeps each terminal's dynamic part consistent: tally within 0 to 15 and 0 in HELD and LATCHED,
decay timer running exactly while it is above 0, hold count at most 7, ABSENT exactly at three misses; and each
group's streak within 0 to 3. That a hold count of 7 is LATCHED, and the latch limit at most 7 wherever it is
held, is part of what is kept (R9, R59, R64, R75, R76, R179). -/
def Obligations.TerminalsStaySound : Prop := Kept TerminalsSound

/-- Every step keeps the building mode as the recall flag and the lines in force form it (R155). -/
def Obligations.BuildingModeFollows : Prop := Kept ModeFollows

/-- Every step keeps the Trip List without two records of one key (R107). -/
def Obligations.OneTripForEachKey : Prop := Kept OneTripPerKey
end

