-- ==== Sys2Proof/Laws/Store.lean ====
section
/-! SUPPORT. The laws of a `Store`: what is read after each operation, and that every operation keeps the canonical form. -/

namespace Sys2Proof.Machine

variable {α : Type}

@[simp] theorem Store.get_nil (d : α) (i : Nat) : Store.get d [] i = d := rfl

theorem Store.get_cons (d : α) (k : Nat) (v : α) (t : Store α) (i : Nat) :
    Store.get d ((k, v) :: t) i = if k = i then v else Store.get d t i := rfl

/-- An index that no entry lists reads as `d`. -/
theorem Store.get_of_not_listed (d : α) (t : Store α) (i : Nat)
    (h : ∀ e ∈ t, e.1 ≠ i) : Store.get d t i = d := by
  induction t with
  | nil => rfl
  | cons e t ih =>
    obtain ⟨k, v⟩ := e
    have hk : k ≠ i := h (k, v) (by simp)
    rw [Store.get_cons, if_neg hk]
    exact ih fun e he => h e (by simp [he])

/-- A record that is read as other than `d` is listed. -/
theorem Store.mem_of_get_ne (d : α) (t : Store α) (i : Nat) (h : Store.get d t i ≠ d) :
    (i, Store.get d t i) ∈ t := by
  induction t with
  | nil => exact absurd rfl h
  | cons e t ih =>
    obtain ⟨k, v⟩ := e
    rw [Store.get_cons] at h ⊢
    by_cases hk : k = i
    · simp [hk]
    · rw [if_neg hk] at h ⊢
      exact List.mem_cons_of_mem _ (ih h)

theorem Store.get_remove_same (d : α) (t : Store α) (i : Nat) :
    Store.get d (Store.remove t i) i = d :=
  Store.get_of_not_listed d _ i (by simp [Store.remove])

theorem Store.get_remove_other (d : α) (t : Store α) {i j : Nat} (h : i ≠ j) :
    Store.get d (Store.remove t i) j = Store.get d t j := by
  induction t with
  | nil => rfl
  | cons e t ih =>
    obtain ⟨k, v⟩ := e
    by_cases hk : k = i
    · subst hk
      simpa [Store.remove, Store.get_cons, h] using ih
    · have hr : Store.remove ((k, v) :: t) i = (k, v) :: Store.remove t i := by
        simp [Store.remove, hk]
      rw [hr, Store.get_cons, Store.get_cons, ih]

theorem Store.get_insert_same (d : α) (t : Store α) (i : Nat) (v : α) :
    Store.get d (Store.insert t i v) i = v := by
  induction t with
  | nil => simp [Store.insert, Store.get_cons]
  | cons e t ih =>
    obtain ⟨k, w⟩ := e
    rw [Store.insert]
    split_ifs with h1 h2
    · simp [Store.get_cons]
    · simp [Store.get_cons]
    · rw [Store.get_cons, if_neg (by omega), ih]

theorem Store.get_insert_other (d : α) (t : Store α) {i j : Nat} (v : α) (h : i ≠ j) :
    Store.get d (Store.insert t i v) j = Store.get d t j := by
  induction t with
  | nil => simp [Store.insert, Store.get_cons, h]
  | cons e t ih =>
    obtain ⟨k, w⟩ := e
    rw [Store.insert]
    split_ifs with h1 h2
    · simp [Store.get_cons, h]
    · subst h2; simp [Store.get_cons, h]
    · rw [Store.get_cons, Store.get_cons, ih]

/-- Every index an insertion lists is the new one or was listed. -/
theorem Store.mem_insert (t : Store α) (i : Nat) (v : α) (e : Nat × α)
    (h : e ∈ Store.insert t i v) : e = (i, v) ∨ e ∈ t := by
  induction t with
  | nil => simpa [Store.insert] using h
  | cons x t ih =>
    obtain ⟨k, w⟩ := x
    rw [Store.insert] at h
    split_ifs at h with h1 h2
    · simpa using h
    · rcases List.mem_cons.1 h with h | h
      · exact .inl h
      · exact .inr (List.mem_cons_of_mem _ h)
    · rcases List.mem_cons.1 h with h | h
      · exact .inr (by simp [h])
      · rcases ih h with h | h
        · exact .inl h
        · exact .inr (List.mem_cons_of_mem _ h)

section
variable [DecidableEq α]

/-- A read after a write to the same index gives the record written. -/
@[simp] theorem Store.get_set_same (d : α) (t : Store α) (i : Nat) (v : α) :
    Store.get d (Store.set d t i v) i = v := by
  rw [Store.set]
  split_ifs with h
  · rw [Store.get_remove_same, h]
  · exact Store.get_insert_same d t i v

/-- A write leaves every other index as it was. -/
theorem Store.get_set_other (d : α) (t : Store α) {i j : Nat} (v : α) (h : i ≠ j) :
    Store.get d (Store.set d t i v) j = Store.get d t j := by
  rw [Store.set]
  split_ifs
  · exact Store.get_remove_other d t h
  · exact Store.get_insert_other d t v h

/-- A read after a write. -/
theorem Store.get_set (d : α) (t : Store α) (i j : Nat) (v : α) :
    Store.get d (Store.set d t i v) j = if i = j then v else Store.get d t j := by
  split_ifs with h
  · subst h; exact Store.get_set_same d t i v
  · exact Store.get_set_other d t v h

/-! ## The canonical form -/

/-- The canonical form of a table with a first entry. -/
theorem Store.wf_cons (d : α) (k : Nat) (v : α) (t : Store α) :
    Store.wf d ((k, v) :: t) = true ↔
      v ≠ d ∧ (∀ e ∈ t, k < e.1) ∧ Store.wf d t = true := by
  simp [Store.wf, and_assoc]

theorem Store.wf_filter (d : α) (p : Nat × α → Bool) (t : Store α) (h : Store.wf d t = true) :
    Store.wf d (t.filter p) = true := by
  induction t with
  | nil => exact h
  | cons e t ih =>
    obtain ⟨k, v⟩ := e
    obtain ⟨hv, hk, ht⟩ := (Store.wf_cons d k v t).1 h
    rw [List.filter_cons]
    split_ifs
    · exact (Store.wf_cons d k v _).2
        ⟨hv, fun e he => hk e (List.mem_of_mem_filter he), ih ht⟩
    · exact ih ht

theorem Store.wf_remove (d : α) (t : Store α) (i : Nat) (h : Store.wf d t = true) :
    Store.wf d (Store.remove t i) = true :=
  Store.wf_filter d _ t h

theorem Store.wf_insert (d : α) (t : Store α) (i : Nat) (v : α) (hv : v ≠ d)
    (h : Store.wf d t = true) : Store.wf d (Store.insert t i v) = true := by
  induction t with
  | nil => simp [Store.insert, Store.wf, hv]
  | cons e t ih =>
    obtain ⟨k, w⟩ := e
    obtain ⟨hw, hk, ht⟩ := (Store.wf_cons d k w t).1 h
    rw [Store.insert]
    split_ifs with h1 h2
    · refine (Store.wf_cons d i v _).2 ⟨hv, ?_, h⟩
      intro e he
      rcases List.mem_cons.1 he with rfl | he
      · exact h1
      · exact lt_trans h1 (hk e he)
    · exact (Store.wf_cons d i v t).2 ⟨hv, fun e he => h2 ▸ hk e he, ht⟩
    · refine (Store.wf_cons d k w _).2 ⟨hw, ?_, ih ht⟩
      intro e he
      rcases Store.mem_insert t i v e he with rfl | he
      · show k < i; omega
      · exact hk e he

/-- A write keeps the canonical form. -/
theorem Store.wf_set (d : α) (t : Store α) (i : Nat) (v : α) (h : Store.wf d t = true) :
    Store.wf d (Store.set d t i v) = true := by
  rw [Store.set]
  split_ifs with hv
  · exact Store.wf_remove d t i h
  · exact Store.wf_insert d t i v hv h

/-- Applying a function to every listed record keeps the canonical form. -/
theorem Store.wf_mapValues (d : α) (f : α → α) (t : Store α) (h : Store.wf d t = true) :
    Store.wf d (Store.mapValues d f t) = true := by
  induction t with
  | nil => rfl
  | cons e t ih =>
    obtain ⟨k, v⟩ := e
    obtain ⟨_, hk, ht⟩ := (Store.wf_cons d k v t).1 h
    have ih := ih ht
    simp only [Store.mapValues, List.map_cons, List.filter_cons] at ih ⊢
    split_ifs with hv
    · refine (Store.wf_cons d k (f v) _).2 ⟨by simpa using hv, ?_, ih⟩
      intro e he
      obtain ⟨x, hx, rfl⟩ := List.mem_map.1 (List.mem_of_mem_filter he)
      exact hk x hx
    · exact ih

/-- Reading after applying a function that keeps the reset contents. -/
theorem Store.get_mapValues (d : α) (f : α → α) (hf : f d = d) (t : Store α)
    (h : Store.wf d t = true) (i : Nat) :
    Store.get d (Store.mapValues d f t) i = f (Store.get d t i) := by
  induction t with
  | nil => exact hf.symm
  | cons e t ih =>
    obtain ⟨k, v⟩ := e
    obtain ⟨_, hk, ht⟩ := (Store.wf_cons d k v t).1 h
    have ih := ih ht
    simp only [Store.mapValues, List.map_cons, List.filter_cons] at ih ⊢
    by_cases hi : k = i
    · subst hi
      rw [Store.get_cons, if_pos rfl]
      split_ifs with hv
      · rw [Store.get_cons, if_pos rfl]
      · rw [Store.get_of_not_listed]
        · exact (by simpa using hv : f v = d).symm
        · intro e he
          obtain ⟨x, hx, rfl⟩ := List.mem_map.1 (List.mem_of_mem_filter he)
          exact (hk x hx).ne'
    · rw [Store.get_cons, if_neg hi]
      split_ifs with hv
      · rw [Store.get_cons, if_neg hi, ih]
      · exact ih

/-- In the canonical form an entry that is listed is what its index reads as. -/
theorem Store.get_of_mem (d : α) (t : Store α) (h : Store.wf d t = true) {i : Nat} {v : α}
    (hm : (i, v) ∈ t) : Store.get d t i = v := by
  induction t with
  | nil => simp at hm
  | cons e t ih =>
    obtain ⟨k, w⟩ := e
    obtain ⟨_, hk, ht⟩ := (Store.wf_cons d k w t).1 h
    rw [Store.get_cons]
    rcases List.mem_cons.1 hm with he | he
    · obtain ⟨rfl, rfl⟩ := Prod.mk.inj he; simp
    · rw [if_neg (hk _ he).ne, ih ht he]

/-- Two tables in canonical form that read alike at every index are equal data. -/
theorem Store.ext_get (d : α) (t u : Store α) (ht : Store.wf d t = true)
    (hu : Store.wf d u = true) (h : ∀ i, Store.get d t i = Store.get d u i) : t = u := by
  induction t generalizing u with
  | nil =>
    cases u with
    | nil => rfl
    | cons e u =>
      obtain ⟨k, v⟩ := e
      have := h k
      rw [Store.get_cons, if_pos rfl] at this
      exact absurd this.symm ((Store.wf_cons d k v u).1 hu).1
  | cons e t ih =>
    obtain ⟨k, v⟩ := e
    obtain ⟨hv, hk, ht'⟩ := (Store.wf_cons d k v t).1 ht
    cases u with
    | nil =>
      have := h k
      rw [Store.get_cons, if_pos rfl] at this
      exact absurd this hv
    | cons e u =>
      obtain ⟨j, w⟩ := e
      obtain ⟨hw, hj, hu'⟩ := (Store.wf_cons d j w u).1 hu
      have hkj : k = j := by
        have h1 := h k
        have h2 := h j
        rw [Store.get_cons, if_pos rfl] at h1
        rw [Store.get_cons d j w u j, if_pos rfl] at h2
        have m1 := Store.mem_of_get_ne d ((j, w) :: u) k (by rw [← h1]; exact hv)
        have m2 := Store.mem_of_get_ne d ((k, v) :: t) j (by rw [h2]; exact hw)
        rcases List.mem_cons.1 m1 with m1 | m1
        · exact (Prod.mk.inj m1).1
        · rcases List.mem_cons.1 m2 with m2 | m2
          · exact (Prod.mk.inj m2).1.symm
          · have a := hj _ m1
            have b := hk _ m2
            simp only at a b
            omega
      subst hkj
      have hvw : v = w := by
        have := h k
        rwa [Store.get_cons, Store.get_cons, if_pos rfl, if_pos rfl] at this
      subst hvw
      congr 1
      refine ih u ht' hu' fun i => ?_
      by_cases hi : k = i
      · subst hi
        rw [Store.get_of_not_listed d t k fun e he => (hk e he).ne',
          Store.get_of_not_listed d u k fun e he => (hj e he).ne']
      · have := h i
        rwa [Store.get_cons, Store.get_cons, if_neg hi, if_neg hi] at this

end

end Sys2Proof.Machine
end

