-- ==== Sys2Proof/Laws/State.lean ====
section
/-! SUPPORT. What each plain update of the state leaves unchanged and what it writes: one lemma for each field, true by `rfl`, and the reads through the named accessors. -/

namespace Sys2Proof.Machine

/-! ## State.setTerminal: the dynamic part of a terminal -/

@[simp] theorem State.setTerminal_resetHeld (s : State) (t : Nat) (v : TerminalState) :
    (s.setTerminal t v).resetHeld = s.resetHeld := rfl
@[simp] theorem State.setTerminal_partState (s : State) (t : Nat) (v : TerminalState) :
    (s.setTerminal t v).partState = s.partState := rfl
@[simp] theorem State.setTerminal_restart (s : State) (t : Nat) (v : TerminalState) :
    (s.setTerminal t v).restart = s.restart := rfl
@[simp] theorem State.setTerminal_now (s : State) (t : Nat) (v : TerminalState) :
    (s.setTerminal t v).now = s.now := rfl
@[simp] theorem State.setTerminal_nextSecond (s : State) (t : Nat) (v : TerminalState) :
    (s.setTerminal t v).nextSecond = s.nextSecond := rfl
@[simp] theorem State.setTerminal_clock (s : State) (t : Nat) (v : TerminalState) :
    (s.setTerminal t v).clock = s.clock := rfl
@[simp] theorem State.setTerminal_tables (s : State) (t : Nat) (v : TerminalState) :
    (s.setTerminal t v).tables = s.tables := rfl
@[simp] theorem State.setTerminal_activeBank (s : State) (t : Nat) (v : TerminalState) :
    (s.setTerminal t v).activeBank = s.activeBank := rfl
@[simp] theorem State.setTerminal_population (s : State) (t : Nat) (v : TerminalState) :
    (s.setTerminal t v).population = s.population := rfl
@[simp] theorem State.setTerminal_terminals (s : State) (t : Nat) (v : TerminalState) :
    (s.setTerminal t v).terminals = s.terminals.set {} t v := rfl
@[simp] theorem State.setTerminal_roundCount (s : State) (t : Nat) (v : TerminalState) :
    (s.setTerminal t v).roundCount = s.roundCount := rfl
@[simp] theorem State.setTerminal_roundPosition (s : State) (t : Nat) (v : TerminalState) :
    (s.setTerminal t v).roundPosition = s.roundPosition := rfl
@[simp] theorem State.setTerminal_exchange (s : State) (t : Nat) (v : TerminalState) :
    (s.setTerminal t v).exchange = s.exchange := rfl
@[simp] theorem State.setTerminal_tReceiver (s : State) (t : Nat) (v : TerminalState) :
    (s.setTerminal t v).tReceiver = s.tReceiver := rfl
@[simp] theorem State.setTerminal_gReceiver (s : State) (t : Nat) (v : TerminalState) :
    (s.setTerminal t v).gReceiver = s.gReceiver := rfl
@[simp] theorem State.setTerminal_tLine (s : State) (t : Nat) (v : TerminalState) :
    (s.setTerminal t v).tLine = s.tLine := rfl
@[simp] theorem State.setTerminal_gLine (s : State) (t : Nat) (v : TerminalState) :
    (s.setTerminal t v).gLine = s.gLine := rfl
@[simp] theorem State.setTerminal_answers (s : State) (t : Nat) (v : TerminalState) :
    (s.setTerminal t v).answers = s.answers := rfl
@[simp] theorem State.setTerminal_toTerminals (s : State) (t : Nat) (v : TerminalState) :
    (s.setTerminal t v).toTerminals = s.toTerminals := rfl
@[simp] theorem State.setTerminal_toNetwork (s : State) (t : Nat) (v : TerminalState) :
    (s.setTerminal t v).toNetwork = s.toNetwork := rfl
@[simp] theorem State.setTerminal_lastServed (s : State) (t : Nat) (v : TerminalState) :
    (s.setTerminal t v).lastServed = s.lastServed := rfl
@[simp] theorem State.setTerminal_trips (s : State) (t : Nat) (v : TerminalState) :
    (s.setTerminal t v).trips = s.trips := rfl
@[simp] theorem State.setTerminal_lastTrip (s : State) (t : Nat) (v : TerminalState) :
    (s.setTerminal t v).lastTrip = s.lastTrip := rfl
@[simp] theorem State.setTerminal_groups (s : State) (t : Nat) (v : TerminalState) :
    (s.setTerminal t v).groups = s.groups := rfl
@[simp] theorem State.setTerminal_lastTag (s : State) (t : Nat) (v : TerminalState) :
    (s.setTerminal t v).lastTag = s.lastTag := rfl
@[simp] theorem State.setTerminal_cancels (s : State) (t : Nat) (v : TerminalState) :
    (s.setTerminal t v).cancels = s.cancels := rfl
@[simp] theorem State.setTerminal_inputs (s : State) (t : Nat) (v : TerminalState) :
    (s.setTerminal t v).inputs = s.inputs := rfl
@[simp] theorem State.setTerminal_lines (s : State) (t : Nat) (v : TerminalState) :
    (s.setTerminal t v).lines = s.lines := rfl
@[simp] theorem State.setTerminal_lockSet (s : State) (t : Nat) (v : TerminalState) :
    (s.setTerminal t v).lockSet = s.lockSet := rfl
@[simp] theorem State.setTerminal_recallFlag (s : State) (t : Nat) (v : TerminalState) :
    (s.setTerminal t v).recallFlag = s.recallFlag := rfl
@[simp] theorem State.setTerminal_mode (s : State) (t : Nat) (v : TerminalState) :
    (s.setTerminal t v).mode = s.mode := rfl
@[simp] theorem State.setTerminal_requests (s : State) (t : Nat) (v : TerminalState) :
    (s.setTerminal t v).requests = s.requests := rfl
@[simp] theorem State.setTerminal_responses (s : State) (t : Nat) (v : TerminalState) :
    (s.setTerminal t v).responses = s.responses := rfl
@[simp] theorem State.setTerminal_siteCode (s : State) (t : Nat) (v : TerminalState) :
    (s.setTerminal t v).siteCode = s.siteCode := rfl
@[simp] theorem State.setTerminal_events (s : State) (t : Nat) (v : TerminalState) :
    (s.setTerminal t v).events = s.events := rfl
@[simp] theorem State.setTerminal_notices (s : State) (t : Nat) (v : TerminalState) :
    (s.setTerminal t v).notices = s.notices := rfl
@[simp] theorem State.setTerminal_reports (s : State) (t : Nat) (v : TerminalState) :
    (s.setTerminal t v).reports = s.reports := rfl
@[simp] theorem State.setTerminal_image (s : State) (t : Nat) (v : TerminalState) :
    (s.setTerminal t v).image = s.image := rfl
@[simp] theorem State.setTerminal_saving (s : State) (t : Nat) (v : TerminalState) :
    (s.setTerminal t v).saving = s.saving := rfl
@[simp] theorem State.setTerminal_imageSequence (s : State) (t : Nat) (v : TerminalState) :
    (s.setTerminal t v).imageSequence = s.imageSequence := rfl
@[simp] theorem State.setTerminal_freeCount (s : State) (t : Nat) (v : TerminalState) :
    (s.setTerminal t v).freeCount = s.freeCount := rfl
@[simp] theorem State.setTerminal_pending (s : State) (t : Nat) (v : TerminalState) :
    (s.setTerminal t v).pending = s.pending := rfl

/-! ## State.setGroup: what is kept for a group -/

@[simp] theorem State.setGroup_resetHeld (s : State) (g : Nat) (v : GroupState) :
    (s.setGroup g v).resetHeld = s.resetHeld := rfl
@[simp] theorem State.setGroup_partState (s : State) (g : Nat) (v : GroupState) :
    (s.setGroup g v).partState = s.partState := rfl
@[simp] theorem State.setGroup_restart (s : State) (g : Nat) (v : GroupState) :
    (s.setGroup g v).restart = s.restart := rfl
@[simp] theorem State.setGroup_now (s : State) (g : Nat) (v : GroupState) :
    (s.setGroup g v).now = s.now := rfl
@[simp] theorem State.setGroup_nextSecond (s : State) (g : Nat) (v : GroupState) :
    (s.setGroup g v).nextSecond = s.nextSecond := rfl
@[simp] theorem State.setGroup_clock (s : State) (g : Nat) (v : GroupState) :
    (s.setGroup g v).clock = s.clock := rfl
@[simp] theorem State.setGroup_tables (s : State) (g : Nat) (v : GroupState) :
    (s.setGroup g v).tables = s.tables := rfl
@[simp] theorem State.setGroup_activeBank (s : State) (g : Nat) (v : GroupState) :
    (s.setGroup g v).activeBank = s.activeBank := rfl
@[simp] theorem State.setGroup_population (s : State) (g : Nat) (v : GroupState) :
    (s.setGroup g v).population = s.population := rfl
@[simp] theorem State.setGroup_terminals (s : State) (g : Nat) (v : GroupState) :
    (s.setGroup g v).terminals = s.terminals := rfl
@[simp] theorem State.setGroup_roundCount (s : State) (g : Nat) (v : GroupState) :
    (s.setGroup g v).roundCount = s.roundCount := rfl
@[simp] theorem State.setGroup_roundPosition (s : State) (g : Nat) (v : GroupState) :
    (s.setGroup g v).roundPosition = s.roundPosition := rfl
@[simp] theorem State.setGroup_exchange (s : State) (g : Nat) (v : GroupState) :
    (s.setGroup g v).exchange = s.exchange := rfl
@[simp] theorem State.setGroup_tReceiver (s : State) (g : Nat) (v : GroupState) :
    (s.setGroup g v).tReceiver = s.tReceiver := rfl
@[simp] theorem State.setGroup_gReceiver (s : State) (g : Nat) (v : GroupState) :
    (s.setGroup g v).gReceiver = s.gReceiver := rfl
@[simp] theorem State.setGroup_tLine (s : State) (g : Nat) (v : GroupState) :
    (s.setGroup g v).tLine = s.tLine := rfl
@[simp] theorem State.setGroup_gLine (s : State) (g : Nat) (v : GroupState) :
    (s.setGroup g v).gLine = s.gLine := rfl
@[simp] theorem State.setGroup_answers (s : State) (g : Nat) (v : GroupState) :
    (s.setGroup g v).answers = s.answers := rfl
@[simp] theorem State.setGroup_toTerminals (s : State) (g : Nat) (v : GroupState) :
    (s.setGroup g v).toTerminals = s.toTerminals := rfl
@[simp] theorem State.setGroup_toNetwork (s : State) (g : Nat) (v : GroupState) :
    (s.setGroup g v).toNetwork = s.toNetwork := rfl
@[simp] theorem State.setGroup_lastServed (s : State) (g : Nat) (v : GroupState) :
    (s.setGroup g v).lastServed = s.lastServed := rfl
@[simp] theorem State.setGroup_trips (s : State) (g : Nat) (v : GroupState) :
    (s.setGroup g v).trips = s.trips := rfl
@[simp] theorem State.setGroup_lastTrip (s : State) (g : Nat) (v : GroupState) :
    (s.setGroup g v).lastTrip = s.lastTrip := rfl
@[simp] theorem State.setGroup_groups (s : State) (g : Nat) (v : GroupState) :
    (s.setGroup g v).groups = s.groups.set {} g v := rfl
@[simp] theorem State.setGroup_lastTag (s : State) (g : Nat) (v : GroupState) :
    (s.setGroup g v).lastTag = s.lastTag := rfl
@[simp] theorem State.setGroup_cancels (s : State) (g : Nat) (v : GroupState) :
    (s.setGroup g v).cancels = s.cancels := rfl
@[simp] theorem State.setGroup_inputs (s : State) (g : Nat) (v : GroupState) :
    (s.setGroup g v).inputs = s.inputs := rfl
@[simp] theorem State.setGroup_lines (s : State) (g : Nat) (v : GroupState) :
    (s.setGroup g v).lines = s.lines := rfl
@[simp] theorem State.setGroup_lockSet (s : State) (g : Nat) (v : GroupState) :
    (s.setGroup g v).lockSet = s.lockSet := rfl
@[simp] theorem State.setGroup_recallFlag (s : State) (g : Nat) (v : GroupState) :
    (s.setGroup g v).recallFlag = s.recallFlag := rfl
@[simp] theorem State.setGroup_mode (s : State) (g : Nat) (v : GroupState) :
    (s.setGroup g v).mode = s.mode := rfl
@[simp] theorem State.setGroup_requests (s : State) (g : Nat) (v : GroupState) :
    (s.setGroup g v).requests = s.requests := rfl
@[simp] theorem State.setGroup_responses (s : State) (g : Nat) (v : GroupState) :
    (s.setGroup g v).responses = s.responses := rfl
@[simp] theorem State.setGroup_siteCode (s : State) (g : Nat) (v : GroupState) :
    (s.setGroup g v).siteCode = s.siteCode := rfl
@[simp] theorem State.setGroup_events (s : State) (g : Nat) (v : GroupState) :
    (s.setGroup g v).events = s.events := rfl
@[simp] theorem State.setGroup_notices (s : State) (g : Nat) (v : GroupState) :
    (s.setGroup g v).notices = s.notices := rfl
@[simp] theorem State.setGroup_reports (s : State) (g : Nat) (v : GroupState) :
    (s.setGroup g v).reports = s.reports := rfl
@[simp] theorem State.setGroup_image (s : State) (g : Nat) (v : GroupState) :
    (s.setGroup g v).image = s.image := rfl
@[simp] theorem State.setGroup_saving (s : State) (g : Nat) (v : GroupState) :
    (s.setGroup g v).saving = s.saving := rfl
@[simp] theorem State.setGroup_imageSequence (s : State) (g : Nat) (v : GroupState) :
    (s.setGroup g v).imageSequence = s.imageSequence := rfl
@[simp] theorem State.setGroup_freeCount (s : State) (g : Nat) (v : GroupState) :
    (s.setGroup g v).freeCount = s.freeCount := rfl
@[simp] theorem State.setGroup_pending (s : State) (g : Nat) (v : GroupState) :
    (s.setGroup g v).pending = s.pending := rfl

/-! ## State.setLine: an alarm line -/

@[simp] theorem State.setLine_resetHeld (s : State) (k : Nat) (v : LineState) :
    (s.setLine k v).resetHeld = s.resetHeld := rfl
@[simp] theorem State.setLine_partState (s : State) (k : Nat) (v : LineState) :
    (s.setLine k v).partState = s.partState := rfl
@[simp] theorem State.setLine_restart (s : State) (k : Nat) (v : LineState) :
    (s.setLine k v).restart = s.restart := rfl
@[simp] theorem State.setLine_now (s : State) (k : Nat) (v : LineState) :
    (s.setLine k v).now = s.now := rfl
@[simp] theorem State.setLine_nextSecond (s : State) (k : Nat) (v : LineState) :
    (s.setLine k v).nextSecond = s.nextSecond := rfl
@[simp] theorem State.setLine_clock (s : State) (k : Nat) (v : LineState) :
    (s.setLine k v).clock = s.clock := rfl
@[simp] theorem State.setLine_tables (s : State) (k : Nat) (v : LineState) :
    (s.setLine k v).tables = s.tables := rfl
@[simp] theorem State.setLine_activeBank (s : State) (k : Nat) (v : LineState) :
    (s.setLine k v).activeBank = s.activeBank := rfl
@[simp] theorem State.setLine_population (s : State) (k : Nat) (v : LineState) :
    (s.setLine k v).population = s.population := rfl
@[simp] theorem State.setLine_terminals (s : State) (k : Nat) (v : LineState) :
    (s.setLine k v).terminals = s.terminals := rfl
@[simp] theorem State.setLine_roundCount (s : State) (k : Nat) (v : LineState) :
    (s.setLine k v).roundCount = s.roundCount := rfl
@[simp] theorem State.setLine_roundPosition (s : State) (k : Nat) (v : LineState) :
    (s.setLine k v).roundPosition = s.roundPosition := rfl
@[simp] theorem State.setLine_exchange (s : State) (k : Nat) (v : LineState) :
    (s.setLine k v).exchange = s.exchange := rfl
@[simp] theorem State.setLine_tReceiver (s : State) (k : Nat) (v : LineState) :
    (s.setLine k v).tReceiver = s.tReceiver := rfl
@[simp] theorem State.setLine_gReceiver (s : State) (k : Nat) (v : LineState) :
    (s.setLine k v).gReceiver = s.gReceiver := rfl
@[simp] theorem State.setLine_tLine (s : State) (k : Nat) (v : LineState) :
    (s.setLine k v).tLine = s.tLine := rfl
@[simp] theorem State.setLine_gLine (s : State) (k : Nat) (v : LineState) :
    (s.setLine k v).gLine = s.gLine := rfl
@[simp] theorem State.setLine_answers (s : State) (k : Nat) (v : LineState) :
    (s.setLine k v).answers = s.answers := rfl
@[simp] theorem State.setLine_toTerminals (s : State) (k : Nat) (v : LineState) :
    (s.setLine k v).toTerminals = s.toTerminals := rfl
@[simp] theorem State.setLine_toNetwork (s : State) (k : Nat) (v : LineState) :
    (s.setLine k v).toNetwork = s.toNetwork := rfl
@[simp] theorem State.setLine_lastServed (s : State) (k : Nat) (v : LineState) :
    (s.setLine k v).lastServed = s.lastServed := rfl
@[simp] theorem State.setLine_trips (s : State) (k : Nat) (v : LineState) :
    (s.setLine k v).trips = s.trips := rfl
@[simp] theorem State.setLine_lastTrip (s : State) (k : Nat) (v : LineState) :
    (s.setLine k v).lastTrip = s.lastTrip := rfl
@[simp] theorem State.setLine_groups (s : State) (k : Nat) (v : LineState) :
    (s.setLine k v).groups = s.groups := rfl
@[simp] theorem State.setLine_lastTag (s : State) (k : Nat) (v : LineState) :
    (s.setLine k v).lastTag = s.lastTag := rfl
@[simp] theorem State.setLine_cancels (s : State) (k : Nat) (v : LineState) :
    (s.setLine k v).cancels = s.cancels := rfl
@[simp] theorem State.setLine_inputs (s : State) (k : Nat) (v : LineState) :
    (s.setLine k v).inputs = s.inputs := rfl
@[simp] theorem State.setLine_lines (s : State) (k : Nat) (v : LineState) :
    (s.setLine k v).lines = s.lines.set {} k v := rfl
@[simp] theorem State.setLine_lockSet (s : State) (k : Nat) (v : LineState) :
    (s.setLine k v).lockSet = s.lockSet := rfl
@[simp] theorem State.setLine_recallFlag (s : State) (k : Nat) (v : LineState) :
    (s.setLine k v).recallFlag = s.recallFlag := rfl
@[simp] theorem State.setLine_mode (s : State) (k : Nat) (v : LineState) :
    (s.setLine k v).mode = s.mode := rfl
@[simp] theorem State.setLine_requests (s : State) (k : Nat) (v : LineState) :
    (s.setLine k v).requests = s.requests := rfl
@[simp] theorem State.setLine_responses (s : State) (k : Nat) (v : LineState) :
    (s.setLine k v).responses = s.responses := rfl
@[simp] theorem State.setLine_siteCode (s : State) (k : Nat) (v : LineState) :
    (s.setLine k v).siteCode = s.siteCode := rfl
@[simp] theorem State.setLine_events (s : State) (k : Nat) (v : LineState) :
    (s.setLine k v).events = s.events := rfl
@[simp] theorem State.setLine_notices (s : State) (k : Nat) (v : LineState) :
    (s.setLine k v).notices = s.notices := rfl
@[simp] theorem State.setLine_reports (s : State) (k : Nat) (v : LineState) :
    (s.setLine k v).reports = s.reports := rfl
@[simp] theorem State.setLine_image (s : State) (k : Nat) (v : LineState) :
    (s.setLine k v).image = s.image := rfl
@[simp] theorem State.setLine_saving (s : State) (k : Nat) (v : LineState) :
    (s.setLine k v).saving = s.saving := rfl
@[simp] theorem State.setLine_imageSequence (s : State) (k : Nat) (v : LineState) :
    (s.setLine k v).imageSequence = s.imageSequence := rfl
@[simp] theorem State.setLine_freeCount (s : State) (k : Nat) (v : LineState) :
    (s.setLine k v).freeCount = s.freeCount := rfl
@[simp] theorem State.setLine_pending (s : State) (k : Nat) (v : LineState) :
    (s.setLine k v).pending = s.pending := rfl

/-! ## State.setLineConfig: an alarm line's configuration -/

@[simp] theorem State.setLineConfig_resetHeld (s : State) (k : Nat) (c : LineConfig) :
    (s.setLineConfig k c).resetHeld = s.resetHeld := rfl
@[simp] theorem State.setLineConfig_partState (s : State) (k : Nat) (c : LineConfig) :
    (s.setLineConfig k c).partState = s.partState := rfl
@[simp] theorem State.setLineConfig_restart (s : State) (k : Nat) (c : LineConfig) :
    (s.setLineConfig k c).restart = s.restart := rfl
@[simp] theorem State.setLineConfig_now (s : State) (k : Nat) (c : LineConfig) :
    (s.setLineConfig k c).now = s.now := rfl
@[simp] theorem State.setLineConfig_nextSecond (s : State) (k : Nat) (c : LineConfig) :
    (s.setLineConfig k c).nextSecond = s.nextSecond := rfl
@[simp] theorem State.setLineConfig_clock (s : State) (k : Nat) (c : LineConfig) :
    (s.setLineConfig k c).clock = s.clock := rfl
@[simp] theorem State.setLineConfig_activeBank (s : State) (k : Nat) (c : LineConfig) :
    (s.setLineConfig k c).activeBank = s.activeBank := rfl
@[simp] theorem State.setLineConfig_population (s : State) (k : Nat) (c : LineConfig) :
    (s.setLineConfig k c).population = s.population := rfl
@[simp] theorem State.setLineConfig_terminals (s : State) (k : Nat) (c : LineConfig) :
    (s.setLineConfig k c).terminals = s.terminals := rfl
@[simp] theorem State.setLineConfig_roundCount (s : State) (k : Nat) (c : LineConfig) :
    (s.setLineConfig k c).roundCount = s.roundCount := rfl
@[simp] theorem State.setLineConfig_roundPosition (s : State) (k : Nat) (c : LineConfig) :
    (s.setLineConfig k c).roundPosition = s.roundPosition := rfl
@[simp] theorem State.setLineConfig_exchange (s : State) (k : Nat) (c : LineConfig) :
    (s.setLineConfig k c).exchange = s.exchange := rfl
@[simp] theorem State.setLineConfig_tReceiver (s : State) (k : Nat) (c : LineConfig) :
    (s.setLineConfig k c).tReceiver = s.tReceiver := rfl
@[simp] theorem State.setLineConfig_gReceiver (s : State) (k : Nat) (c : LineConfig) :
    (s.setLineConfig k c).gReceiver = s.gReceiver := rfl
@[simp] theorem State.setLineConfig_tLine (s : State) (k : Nat) (c : LineConfig) :
    (s.setLineConfig k c).tLine = s.tLine := rfl
@[simp] theorem State.setLineConfig_gLine (s : State) (k : Nat) (c : LineConfig) :
    (s.setLineConfig k c).gLine = s.gLine := rfl
@[simp] theorem State.setLineConfig_answers (s : State) (k : Nat) (c : LineConfig) :
    (s.setLineConfig k c).answers = s.answers := rfl
@[simp] theorem State.setLineConfig_toTerminals (s : State) (k : Nat) (c : LineConfig) :
    (s.setLineConfig k c).toTerminals = s.toTerminals := rfl
@[simp] theorem State.setLineConfig_toNetwork (s : State) (k : Nat) (c : LineConfig) :
    (s.setLineConfig k c).toNetwork = s.toNetwork := rfl
@[simp] theorem State.setLineConfig_lastServed (s : State) (k : Nat) (c : LineConfig) :
    (s.setLineConfig k c).lastServed = s.lastServed := rfl
@[simp] theorem State.setLineConfig_trips (s : State) (k : Nat) (c : LineConfig) :
    (s.setLineConfig k c).trips = s.trips := rfl
@[simp] theorem State.setLineConfig_lastTrip (s : State) (k : Nat) (c : LineConfig) :
    (s.setLineConfig k c).lastTrip = s.lastTrip := rfl
@[simp] theorem State.setLineConfig_groups (s : State) (k : Nat) (c : LineConfig) :
    (s.setLineConfig k c).groups = s.groups := rfl
@[simp] theorem State.setLineConfig_lastTag (s : State) (k : Nat) (c : LineConfig) :
    (s.setLineConfig k c).lastTag = s.lastTag := rfl
@[simp] theorem State.setLineConfig_cancels (s : State) (k : Nat) (c : LineConfig) :
    (s.setLineConfig k c).cancels = s.cancels := rfl
@[simp] theorem State.setLineConfig_inputs (s : State) (k : Nat) (c : LineConfig) :
    (s.setLineConfig k c).inputs = s.inputs := rfl
@[simp] theorem State.setLineConfig_lines (s : State) (k : Nat) (c : LineConfig) :
    (s.setLineConfig k c).lines = s.lines := rfl
@[simp] theorem State.setLineConfig_lockSet (s : State) (k : Nat) (c : LineConfig) :
    (s.setLineConfig k c).lockSet = s.lockSet := rfl
@[simp] theorem State.setLineConfig_recallFlag (s : State) (k : Nat) (c : LineConfig) :
    (s.setLineConfig k c).recallFlag = s.recallFlag := rfl
@[simp] theorem State.setLineConfig_mode (s : State) (k : Nat) (c : LineConfig) :
    (s.setLineConfig k c).mode = s.mode := rfl
@[simp] theorem State.setLineConfig_requests (s : State) (k : Nat) (c : LineConfig) :
    (s.setLineConfig k c).requests = s.requests := rfl
@[simp] theorem State.setLineConfig_responses (s : State) (k : Nat) (c : LineConfig) :
    (s.setLineConfig k c).responses = s.responses := rfl
@[simp] theorem State.setLineConfig_siteCode (s : State) (k : Nat) (c : LineConfig) :
    (s.setLineConfig k c).siteCode = s.siteCode := rfl
@[simp] theorem State.setLineConfig_events (s : State) (k : Nat) (c : LineConfig) :
    (s.setLineConfig k c).events = s.events := rfl
@[simp] theorem State.setLineConfig_notices (s : State) (k : Nat) (c : LineConfig) :
    (s.setLineConfig k c).notices = s.notices := rfl
@[simp] theorem State.setLineConfig_reports (s : State) (k : Nat) (c : LineConfig) :
    (s.setLineConfig k c).reports = s.reports := rfl
@[simp] theorem State.setLineConfig_image (s : State) (k : Nat) (c : LineConfig) :
    (s.setLineConfig k c).image = s.image := rfl
@[simp] theorem State.setLineConfig_saving (s : State) (k : Nat) (c : LineConfig) :
    (s.setLineConfig k c).saving = s.saving := rfl
@[simp] theorem State.setLineConfig_imageSequence (s : State) (k : Nat) (c : LineConfig) :
    (s.setLineConfig k c).imageSequence = s.imageSequence := rfl
@[simp] theorem State.setLineConfig_freeCount (s : State) (k : Nat) (c : LineConfig) :
    (s.setLineConfig k c).freeCount = s.freeCount := rfl
@[simp] theorem State.setLineConfig_pending (s : State) (k : Nat) (c : LineConfig) :
    (s.setLineConfig k c).pending = s.pending := rfl

/-! ## State.setWay: a way of the Credential Table -/

@[simp] theorem State.setWay_resetHeld (s : State) (w : Nat) (e : Option BadgeEntry) :
    (s.setWay w e).resetHeld = s.resetHeld := rfl
@[simp] theorem State.setWay_partState (s : State) (w : Nat) (e : Option BadgeEntry) :
    (s.setWay w e).partState = s.partState := rfl
@[simp] theorem State.setWay_restart (s : State) (w : Nat) (e : Option BadgeEntry) :
    (s.setWay w e).restart = s.restart := rfl
@[simp] theorem State.setWay_now (s : State) (w : Nat) (e : Option BadgeEntry) :
    (s.setWay w e).now = s.now := rfl
@[simp] theorem State.setWay_nextSecond (s : State) (w : Nat) (e : Option BadgeEntry) :
    (s.setWay w e).nextSecond = s.nextSecond := rfl
@[simp] theorem State.setWay_clock (s : State) (w : Nat) (e : Option BadgeEntry) :
    (s.setWay w e).clock = s.clock := rfl
@[simp] theorem State.setWay_activeBank (s : State) (w : Nat) (e : Option BadgeEntry) :
    (s.setWay w e).activeBank = s.activeBank := rfl
@[simp] theorem State.setWay_population (s : State) (w : Nat) (e : Option BadgeEntry) :
    (s.setWay w e).population = s.population := rfl
@[simp] theorem State.setWay_terminals (s : State) (w : Nat) (e : Option BadgeEntry) :
    (s.setWay w e).terminals = s.terminals := rfl
@[simp] theorem State.setWay_roundCount (s : State) (w : Nat) (e : Option BadgeEntry) :
    (s.setWay w e).roundCount = s.roundCount := rfl
@[simp] theorem State.setWay_roundPosition (s : State) (w : Nat) (e : Option BadgeEntry) :
    (s.setWay w e).roundPosition = s.roundPosition := rfl
@[simp] theorem State.setWay_exchange (s : State) (w : Nat) (e : Option BadgeEntry) :
    (s.setWay w e).exchange = s.exchange := rfl
@[simp] theorem State.setWay_tReceiver (s : State) (w : Nat) (e : Option BadgeEntry) :
    (s.setWay w e).tReceiver = s.tReceiver := rfl
@[simp] theorem State.setWay_gReceiver (s : State) (w : Nat) (e : Option BadgeEntry) :
    (s.setWay w e).gReceiver = s.gReceiver := rfl
@[simp] theorem State.setWay_tLine (s : State) (w : Nat) (e : Option BadgeEntry) :
    (s.setWay w e).tLine = s.tLine := rfl
@[simp] theorem State.setWay_gLine (s : State) (w : Nat) (e : Option BadgeEntry) :
    (s.setWay w e).gLine = s.gLine := rfl
@[simp] theorem State.setWay_answers (s : State) (w : Nat) (e : Option BadgeEntry) :
    (s.setWay w e).answers = s.answers := rfl
@[simp] theorem State.setWay_toTerminals (s : State) (w : Nat) (e : Option BadgeEntry) :
    (s.setWay w e).toTerminals = s.toTerminals := rfl
@[simp] theorem State.setWay_toNetwork (s : State) (w : Nat) (e : Option BadgeEntry) :
    (s.setWay w e).toNetwork = s.toNetwork := rfl
@[simp] theorem State.setWay_lastServed (s : State) (w : Nat) (e : Option BadgeEntry) :
    (s.setWay w e).lastServed = s.lastServed := rfl
@[simp] theorem State.setWay_trips (s : State) (w : Nat) (e : Option BadgeEntry) :
    (s.setWay w e).trips = s.trips := rfl
@[simp] theorem State.setWay_lastTrip (s : State) (w : Nat) (e : Option BadgeEntry) :
    (s.setWay w e).lastTrip = s.lastTrip := rfl
@[simp] theorem State.setWay_groups (s : State) (w : Nat) (e : Option BadgeEntry) :
    (s.setWay w e).groups = s.groups := rfl
@[simp] theorem State.setWay_lastTag (s : State) (w : Nat) (e : Option BadgeEntry) :
    (s.setWay w e).lastTag = s.lastTag := rfl
@[simp] theorem State.setWay_cancels (s : State) (w : Nat) (e : Option BadgeEntry) :
    (s.setWay w e).cancels = s.cancels := rfl
@[simp] theorem State.setWay_inputs (s : State) (w : Nat) (e : Option BadgeEntry) :
    (s.setWay w e).inputs = s.inputs := rfl
@[simp] theorem State.setWay_lines (s : State) (w : Nat) (e : Option BadgeEntry) :
    (s.setWay w e).lines = s.lines := rfl
@[simp] theorem State.setWay_lockSet (s : State) (w : Nat) (e : Option BadgeEntry) :
    (s.setWay w e).lockSet = s.lockSet := rfl
@[simp] theorem State.setWay_recallFlag (s : State) (w : Nat) (e : Option BadgeEntry) :
    (s.setWay w e).recallFlag = s.recallFlag := rfl
@[simp] theorem State.setWay_mode (s : State) (w : Nat) (e : Option BadgeEntry) :
    (s.setWay w e).mode = s.mode := rfl
@[simp] theorem State.setWay_requests (s : State) (w : Nat) (e : Option BadgeEntry) :
    (s.setWay w e).requests = s.requests := rfl
@[simp] theorem State.setWay_responses (s : State) (w : Nat) (e : Option BadgeEntry) :
    (s.setWay w e).responses = s.responses := rfl
@[simp] theorem State.setWay_siteCode (s : State) (w : Nat) (e : Option BadgeEntry) :
    (s.setWay w e).siteCode = s.siteCode := rfl
@[simp] theorem State.setWay_events (s : State) (w : Nat) (e : Option BadgeEntry) :
    (s.setWay w e).events = s.events := rfl
@[simp] theorem State.setWay_notices (s : State) (w : Nat) (e : Option BadgeEntry) :
    (s.setWay w e).notices = s.notices := rfl
@[simp] theorem State.setWay_reports (s : State) (w : Nat) (e : Option BadgeEntry) :
    (s.setWay w e).reports = s.reports := rfl
@[simp] theorem State.setWay_image (s : State) (w : Nat) (e : Option BadgeEntry) :
    (s.setWay w e).image = s.image := rfl
@[simp] theorem State.setWay_saving (s : State) (w : Nat) (e : Option BadgeEntry) :
    (s.setWay w e).saving = s.saving := rfl
@[simp] theorem State.setWay_imageSequence (s : State) (w : Nat) (e : Option BadgeEntry) :
    (s.setWay w e).imageSequence = s.imageSequence := rfl
@[simp] theorem State.setWay_freeCount (s : State) (w : Nat) (e : Option BadgeEntry) :
    (s.setWay w e).freeCount = s.freeCount := rfl
@[simp] theorem State.setWay_pending (s : State) (w : Nat) (e : Option BadgeEntry) :
    (s.setWay w e).pending = s.pending := rfl

/-! ## State.removeTrip: a trip leaves -/

@[simp] theorem State.removeTrip_resetHeld (s : State) (n : Nat) :
    (s.removeTrip n).resetHeld = s.resetHeld := rfl
@[simp] theorem State.removeTrip_partState (s : State) (n : Nat) :
    (s.removeTrip n).partState = s.partState := rfl
@[simp] theorem State.removeTrip_restart (s : State) (n : Nat) :
    (s.removeTrip n).restart = s.restart := rfl
@[simp] theorem State.removeTrip_now (s : State) (n : Nat) :
    (s.removeTrip n).now = s.now := rfl
@[simp] theorem State.removeTrip_nextSecond (s : State) (n : Nat) :
    (s.removeTrip n).nextSecond = s.nextSecond := rfl
@[simp] theorem State.removeTrip_clock (s : State) (n : Nat) :
    (s.removeTrip n).clock = s.clock := rfl
@[simp] theorem State.removeTrip_tables (s : State) (n : Nat) :
    (s.removeTrip n).tables = s.tables := rfl
@[simp] theorem State.removeTrip_activeBank (s : State) (n : Nat) :
    (s.removeTrip n).activeBank = s.activeBank := rfl
@[simp] theorem State.removeTrip_population (s : State) (n : Nat) :
    (s.removeTrip n).population = s.population := rfl
@[simp] theorem State.removeTrip_terminals (s : State) (n : Nat) :
    (s.removeTrip n).terminals = s.terminals := rfl
@[simp] theorem State.removeTrip_roundCount (s : State) (n : Nat) :
    (s.removeTrip n).roundCount = s.roundCount := rfl
@[simp] theorem State.removeTrip_roundPosition (s : State) (n : Nat) :
    (s.removeTrip n).roundPosition = s.roundPosition := rfl
@[simp] theorem State.removeTrip_exchange (s : State) (n : Nat) :
    (s.removeTrip n).exchange = s.exchange := rfl
@[simp] theorem State.removeTrip_tReceiver (s : State) (n : Nat) :
    (s.removeTrip n).tReceiver = s.tReceiver := rfl
@[simp] theorem State.removeTrip_gReceiver (s : State) (n : Nat) :
    (s.removeTrip n).gReceiver = s.gReceiver := rfl
@[simp] theorem State.removeTrip_tLine (s : State) (n : Nat) :
    (s.removeTrip n).tLine = s.tLine := rfl
@[simp] theorem State.removeTrip_gLine (s : State) (n : Nat) :
    (s.removeTrip n).gLine = s.gLine := rfl
@[simp] theorem State.removeTrip_answers (s : State) (n : Nat) :
    (s.removeTrip n).answers = s.answers := rfl
@[simp] theorem State.removeTrip_toTerminals (s : State) (n : Nat) :
    (s.removeTrip n).toTerminals = s.toTerminals := rfl
@[simp] theorem State.removeTrip_toNetwork (s : State) (n : Nat) :
    (s.removeTrip n).toNetwork = s.toNetwork := rfl
@[simp] theorem State.removeTrip_lastServed (s : State) (n : Nat) :
    (s.removeTrip n).lastServed = s.lastServed := rfl
@[simp] theorem State.removeTrip_trips (s : State) (n : Nat) :
    (s.removeTrip n).trips = s.trips.filter (fun t => t.number ≠ n) := rfl
@[simp] theorem State.removeTrip_lastTrip (s : State) (n : Nat) :
    (s.removeTrip n).lastTrip = s.lastTrip := rfl
@[simp] theorem State.removeTrip_groups (s : State) (n : Nat) :
    (s.removeTrip n).groups = s.groups := rfl
@[simp] theorem State.removeTrip_lastTag (s : State) (n : Nat) :
    (s.removeTrip n).lastTag = s.lastTag := rfl
@[simp] theorem State.removeTrip_cancels (s : State) (n : Nat) :
    (s.removeTrip n).cancels = s.cancels := rfl
@[simp] theorem State.removeTrip_inputs (s : State) (n : Nat) :
    (s.removeTrip n).inputs = s.inputs := rfl
@[simp] theorem State.removeTrip_lines (s : State) (n : Nat) :
    (s.removeTrip n).lines = s.lines := rfl
@[simp] theorem State.removeTrip_lockSet (s : State) (n : Nat) :
    (s.removeTrip n).lockSet = s.lockSet := rfl
@[simp] theorem State.removeTrip_recallFlag (s : State) (n : Nat) :
    (s.removeTrip n).recallFlag = s.recallFlag := rfl
@[simp] theorem State.removeTrip_mode (s : State) (n : Nat) :
    (s.removeTrip n).mode = s.mode := rfl
@[simp] theorem State.removeTrip_requests (s : State) (n : Nat) :
    (s.removeTrip n).requests = s.requests := rfl
@[simp] theorem State.removeTrip_responses (s : State) (n : Nat) :
    (s.removeTrip n).responses = s.responses := rfl
@[simp] theorem State.removeTrip_siteCode (s : State) (n : Nat) :
    (s.removeTrip n).siteCode = s.siteCode := rfl
@[simp] theorem State.removeTrip_events (s : State) (n : Nat) :
    (s.removeTrip n).events = s.events := rfl
@[simp] theorem State.removeTrip_notices (s : State) (n : Nat) :
    (s.removeTrip n).notices = s.notices := rfl
@[simp] theorem State.removeTrip_reports (s : State) (n : Nat) :
    (s.removeTrip n).reports = s.reports := rfl
@[simp] theorem State.removeTrip_image (s : State) (n : Nat) :
    (s.removeTrip n).image = s.image := rfl
@[simp] theorem State.removeTrip_saving (s : State) (n : Nat) :
    (s.removeTrip n).saving = s.saving := rfl
@[simp] theorem State.removeTrip_imageSequence (s : State) (n : Nat) :
    (s.removeTrip n).imageSequence = s.imageSequence := rfl
@[simp] theorem State.removeTrip_freeCount (s : State) (n : Nat) :
    (s.removeTrip n).freeCount = s.freeCount := rfl
@[simp] theorem State.removeTrip_pending (s : State) (n : Nat) :
    (s.removeTrip n).pending = s.pending := rfl

/-! ## State.updateTrip: a trip record changes -/

@[simp] theorem State.updateTrip_resetHeld (s : State) (n : Nat) (f : Trip → Trip) :
    (s.updateTrip n f).resetHeld = s.resetHeld := rfl
@[simp] theorem State.updateTrip_partState (s : State) (n : Nat) (f : Trip → Trip) :
    (s.updateTrip n f).partState = s.partState := rfl
@[simp] theorem State.updateTrip_restart (s : State) (n : Nat) (f : Trip → Trip) :
    (s.updateTrip n f).restart = s.restart := rfl
@[simp] theorem State.updateTrip_now (s : State) (n : Nat) (f : Trip → Trip) :
    (s.updateTrip n f).now = s.now := rfl
@[simp] theorem State.updateTrip_nextSecond (s : State) (n : Nat) (f : Trip → Trip) :
    (s.updateTrip n f).nextSecond = s.nextSecond := rfl
@[simp] theorem State.updateTrip_clock (s : State) (n : Nat) (f : Trip → Trip) :
    (s.updateTrip n f).clock = s.clock := rfl
@[simp] theorem State.updateTrip_tables (s : State) (n : Nat) (f : Trip → Trip) :
    (s.updateTrip n f).tables = s.tables := rfl
@[simp] theorem State.updateTrip_activeBank (s : State) (n : Nat) (f : Trip → Trip) :
    (s.updateTrip n f).activeBank = s.activeBank := rfl
@[simp] theorem State.updateTrip_population (s : State) (n : Nat) (f : Trip → Trip) :
    (s.updateTrip n f).population = s.population := rfl
@[simp] theorem State.updateTrip_terminals (s : State) (n : Nat) (f : Trip → Trip) :
    (s.updateTrip n f).terminals = s.terminals := rfl
@[simp] theorem State.updateTrip_roundCount (s : State) (n : Nat) (f : Trip → Trip) :
    (s.updateTrip n f).roundCount = s.roundCount := rfl
@[simp] theorem State.updateTrip_roundPosition (s : State) (n : Nat) (f : Trip → Trip) :
    (s.updateTrip n f).roundPosition = s.roundPosition := rfl
@[simp] theorem State.updateTrip_exchange (s : State) (n : Nat) (f : Trip → Trip) :
    (s.updateTrip n f).exchange = s.exchange := rfl
@[simp] theorem State.updateTrip_tReceiver (s : State) (n : Nat) (f : Trip → Trip) :
    (s.updateTrip n f).tReceiver = s.tReceiver := rfl
@[simp] theorem State.updateTrip_gReceiver (s : State) (n : Nat) (f : Trip → Trip) :
    (s.updateTrip n f).gReceiver = s.gReceiver := rfl
@[simp] theorem State.updateTrip_tLine (s : State) (n : Nat) (f : Trip → Trip) :
    (s.updateTrip n f).tLine = s.tLine := rfl
@[simp] theorem State.updateTrip_gLine (s : State) (n : Nat) (f : Trip → Trip) :
    (s.updateTrip n f).gLine = s.gLine := rfl
@[simp] theorem State.updateTrip_answers (s : State) (n : Nat) (f : Trip → Trip) :
    (s.updateTrip n f).answers = s.answers := rfl
@[simp] theorem State.updateTrip_toTerminals (s : State) (n : Nat) (f : Trip → Trip) :
    (s.updateTrip n f).toTerminals = s.toTerminals := rfl
@[simp] theorem State.updateTrip_toNetwork (s : State) (n : Nat) (f : Trip → Trip) :
    (s.updateTrip n f).toNetwork = s.toNetwork := rfl
@[simp] theorem State.updateTrip_lastServed (s : State) (n : Nat) (f : Trip → Trip) :
    (s.updateTrip n f).lastServed = s.lastServed := rfl
@[simp] theorem State.updateTrip_trips (s : State) (n : Nat) (f : Trip → Trip) :
    (s.updateTrip n f).trips = s.trips.map (fun t => if t.number = n then f t else t) := rfl
@[simp] theorem State.updateTrip_lastTrip (s : State) (n : Nat) (f : Trip → Trip) :
    (s.updateTrip n f).lastTrip = s.lastTrip := rfl
@[simp] theorem State.updateTrip_groups (s : State) (n : Nat) (f : Trip → Trip) :
    (s.updateTrip n f).groups = s.groups := rfl
@[simp] theorem State.updateTrip_lastTag (s : State) (n : Nat) (f : Trip → Trip) :
    (s.updateTrip n f).lastTag = s.lastTag := rfl
@[simp] theorem State.updateTrip_cancels (s : State) (n : Nat) (f : Trip → Trip) :
    (s.updateTrip n f).cancels = s.cancels := rfl
@[simp] theorem State.updateTrip_inputs (s : State) (n : Nat) (f : Trip → Trip) :
    (s.updateTrip n f).inputs = s.inputs := rfl
@[simp] theorem State.updateTrip_lines (s : State) (n : Nat) (f : Trip → Trip) :
    (s.updateTrip n f).lines = s.lines := rfl
@[simp] theorem State.updateTrip_lockSet (s : State) (n : Nat) (f : Trip → Trip) :
    (s.updateTrip n f).lockSet = s.lockSet := rfl
@[simp] theorem State.updateTrip_recallFlag (s : State) (n : Nat) (f : Trip → Trip) :
    (s.updateTrip n f).recallFlag = s.recallFlag := rfl
@[simp] theorem State.updateTrip_mode (s : State) (n : Nat) (f : Trip → Trip) :
    (s.updateTrip n f).mode = s.mode := rfl
@[simp] theorem State.updateTrip_requests (s : State) (n : Nat) (f : Trip → Trip) :
    (s.updateTrip n f).requests = s.requests := rfl
@[simp] theorem State.updateTrip_responses (s : State) (n : Nat) (f : Trip → Trip) :
    (s.updateTrip n f).responses = s.responses := rfl
@[simp] theorem State.updateTrip_siteCode (s : State) (n : Nat) (f : Trip → Trip) :
    (s.updateTrip n f).siteCode = s.siteCode := rfl
@[simp] theorem State.updateTrip_events (s : State) (n : Nat) (f : Trip → Trip) :
    (s.updateTrip n f).events = s.events := rfl
@[simp] theorem State.updateTrip_notices (s : State) (n : Nat) (f : Trip → Trip) :
    (s.updateTrip n f).notices = s.notices := rfl
@[simp] theorem State.updateTrip_reports (s : State) (n : Nat) (f : Trip → Trip) :
    (s.updateTrip n f).reports = s.reports := rfl
@[simp] theorem State.updateTrip_image (s : State) (n : Nat) (f : Trip → Trip) :
    (s.updateTrip n f).image = s.image := rfl
@[simp] theorem State.updateTrip_saving (s : State) (n : Nat) (f : Trip → Trip) :
    (s.updateTrip n f).saving = s.saving := rfl
@[simp] theorem State.updateTrip_imageSequence (s : State) (n : Nat) (f : Trip → Trip) :
    (s.updateTrip n f).imageSequence = s.imageSequence := rfl
@[simp] theorem State.updateTrip_freeCount (s : State) (n : Nat) (f : Trip → Trip) :
    (s.updateTrip n f).freeCount = s.freeCount := rfl
@[simp] theorem State.updateTrip_pending (s : State) (n : Nat) (f : Trip → Trip) :
    (s.updateTrip n f).pending = s.pending := rfl

/-! ## State.dropPass: a waiting pass is dropped -/

@[simp] theorem State.dropPass_resetHeld (s : State) (k : BadgeKey) :
    (s.dropPass k).resetHeld = s.resetHeld := rfl
@[simp] theorem State.dropPass_partState (s : State) (k : BadgeKey) :
    (s.dropPass k).partState = s.partState := rfl
@[simp] theorem State.dropPass_restart (s : State) (k : BadgeKey) :
    (s.dropPass k).restart = s.restart := rfl
@[simp] theorem State.dropPass_now (s : State) (k : BadgeKey) :
    (s.dropPass k).now = s.now := rfl
@[simp] theorem State.dropPass_nextSecond (s : State) (k : BadgeKey) :
    (s.dropPass k).nextSecond = s.nextSecond := rfl
@[simp] theorem State.dropPass_clock (s : State) (k : BadgeKey) :
    (s.dropPass k).clock = s.clock := rfl
@[simp] theorem State.dropPass_tables (s : State) (k : BadgeKey) :
    (s.dropPass k).tables = s.tables := rfl
@[simp] theorem State.dropPass_activeBank (s : State) (k : BadgeKey) :
    (s.dropPass k).activeBank = s.activeBank := rfl
@[simp] theorem State.dropPass_population (s : State) (k : BadgeKey) :
    (s.dropPass k).population = s.population := rfl
@[simp] theorem State.dropPass_terminals (s : State) (k : BadgeKey) :
    (s.dropPass k).terminals = s.terminals := rfl
@[simp] theorem State.dropPass_roundCount (s : State) (k : BadgeKey) :
    (s.dropPass k).roundCount = s.roundCount := rfl
@[simp] theorem State.dropPass_roundPosition (s : State) (k : BadgeKey) :
    (s.dropPass k).roundPosition = s.roundPosition := rfl
@[simp] theorem State.dropPass_exchange (s : State) (k : BadgeKey) :
    (s.dropPass k).exchange = s.exchange := rfl
@[simp] theorem State.dropPass_tReceiver (s : State) (k : BadgeKey) :
    (s.dropPass k).tReceiver = s.tReceiver := rfl
@[simp] theorem State.dropPass_gReceiver (s : State) (k : BadgeKey) :
    (s.dropPass k).gReceiver = s.gReceiver := rfl
@[simp] theorem State.dropPass_tLine (s : State) (k : BadgeKey) :
    (s.dropPass k).tLine = s.tLine := rfl
@[simp] theorem State.dropPass_gLine (s : State) (k : BadgeKey) :
    (s.dropPass k).gLine = s.gLine := rfl
@[simp] theorem State.dropPass_answers (s : State) (k : BadgeKey) :
    (s.dropPass k).answers = s.answers := rfl
@[simp] theorem State.dropPass_toTerminals (s : State) (k : BadgeKey) :
    (s.dropPass k).toTerminals = s.toTerminals := rfl
@[simp] theorem State.dropPass_toNetwork (s : State) (k : BadgeKey) :
    (s.dropPass k).toNetwork = s.toNetwork := rfl
@[simp] theorem State.dropPass_lastServed (s : State) (k : BadgeKey) :
    (s.dropPass k).lastServed = s.lastServed := rfl
@[simp] theorem State.dropPass_lastTrip (s : State) (k : BadgeKey) :
    (s.dropPass k).lastTrip = s.lastTrip := rfl
@[simp] theorem State.dropPass_groups (s : State) (k : BadgeKey) :
    (s.dropPass k).groups = s.groups := rfl
@[simp] theorem State.dropPass_lastTag (s : State) (k : BadgeKey) :
    (s.dropPass k).lastTag = s.lastTag := rfl
@[simp] theorem State.dropPass_cancels (s : State) (k : BadgeKey) :
    (s.dropPass k).cancels = s.cancels := rfl
@[simp] theorem State.dropPass_inputs (s : State) (k : BadgeKey) :
    (s.dropPass k).inputs = s.inputs := rfl
@[simp] theorem State.dropPass_lines (s : State) (k : BadgeKey) :
    (s.dropPass k).lines = s.lines := rfl
@[simp] theorem State.dropPass_lockSet (s : State) (k : BadgeKey) :
    (s.dropPass k).lockSet = s.lockSet := rfl
@[simp] theorem State.dropPass_recallFlag (s : State) (k : BadgeKey) :
    (s.dropPass k).recallFlag = s.recallFlag := rfl
@[simp] theorem State.dropPass_mode (s : State) (k : BadgeKey) :
    (s.dropPass k).mode = s.mode := rfl
@[simp] theorem State.dropPass_requests (s : State) (k : BadgeKey) :
    (s.dropPass k).requests = s.requests := rfl
@[simp] theorem State.dropPass_responses (s : State) (k : BadgeKey) :
    (s.dropPass k).responses = s.responses := rfl
@[simp] theorem State.dropPass_siteCode (s : State) (k : BadgeKey) :
    (s.dropPass k).siteCode = s.siteCode := rfl
@[simp] theorem State.dropPass_events (s : State) (k : BadgeKey) :
    (s.dropPass k).events = s.events := rfl
@[simp] theorem State.dropPass_notices (s : State) (k : BadgeKey) :
    (s.dropPass k).notices = s.notices := rfl
@[simp] theorem State.dropPass_reports (s : State) (k : BadgeKey) :
    (s.dropPass k).reports = s.reports := rfl
@[simp] theorem State.dropPass_image (s : State) (k : BadgeKey) :
    (s.dropPass k).image = s.image := rfl
@[simp] theorem State.dropPass_saving (s : State) (k : BadgeKey) :
    (s.dropPass k).saving = s.saving := rfl
@[simp] theorem State.dropPass_imageSequence (s : State) (k : BadgeKey) :
    (s.dropPass k).imageSequence = s.imageSequence := rfl
@[simp] theorem State.dropPass_freeCount (s : State) (k : BadgeKey) :
    (s.dropPass k).freeCount = s.freeCount := rfl
@[simp] theorem State.dropPass_pending (s : State) (k : BadgeKey) :
    (s.dropPass k).pending = s.pending := rfl

/-! ## State.reach: elapsed time -/

@[simp] theorem State.reach_resetHeld (s : State) (d : Nat) :
    (s.reach d).resetHeld = s.resetHeld := rfl
@[simp] theorem State.reach_partState (s : State) (d : Nat) :
    (s.reach d).partState = s.partState := rfl
@[simp] theorem State.reach_restart (s : State) (d : Nat) :
    (s.reach d).restart = s.restart := rfl
@[simp] theorem State.reach_now (s : State) (d : Nat) :
    (s.reach d).now = max s.now d := rfl
@[simp] theorem State.reach_nextSecond (s : State) (d : Nat) :
    (s.reach d).nextSecond = s.nextSecond := rfl
@[simp] theorem State.reach_clock (s : State) (d : Nat) :
    (s.reach d).clock = s.clock := rfl
@[simp] theorem State.reach_tables (s : State) (d : Nat) :
    (s.reach d).tables = s.tables := rfl
@[simp] theorem State.reach_activeBank (s : State) (d : Nat) :
    (s.reach d).activeBank = s.activeBank := rfl
@[simp] theorem State.reach_population (s : State) (d : Nat) :
    (s.reach d).population = s.population := rfl
@[simp] theorem State.reach_terminals (s : State) (d : Nat) :
    (s.reach d).terminals = s.terminals := rfl
@[simp] theorem State.reach_roundCount (s : State) (d : Nat) :
    (s.reach d).roundCount = s.roundCount := rfl
@[simp] theorem State.reach_roundPosition (s : State) (d : Nat) :
    (s.reach d).roundPosition = s.roundPosition := rfl
@[simp] theorem State.reach_exchange (s : State) (d : Nat) :
    (s.reach d).exchange = s.exchange := rfl
@[simp] theorem State.reach_tReceiver (s : State) (d : Nat) :
    (s.reach d).tReceiver = s.tReceiver := rfl
@[simp] theorem State.reach_gReceiver (s : State) (d : Nat) :
    (s.reach d).gReceiver = s.gReceiver := rfl
@[simp] theorem State.reach_tLine (s : State) (d : Nat) :
    (s.reach d).tLine = s.tLine := rfl
@[simp] theorem State.reach_gLine (s : State) (d : Nat) :
    (s.reach d).gLine = s.gLine := rfl
@[simp] theorem State.reach_answers (s : State) (d : Nat) :
    (s.reach d).answers = s.answers := rfl
@[simp] theorem State.reach_toTerminals (s : State) (d : Nat) :
    (s.reach d).toTerminals = s.toTerminals := rfl
@[simp] theorem State.reach_toNetwork (s : State) (d : Nat) :
    (s.reach d).toNetwork = s.toNetwork := rfl
@[simp] theorem State.reach_lastServed (s : State) (d : Nat) :
    (s.reach d).lastServed = s.lastServed := rfl
@[simp] theorem State.reach_trips (s : State) (d : Nat) :
    (s.reach d).trips = s.trips := rfl
@[simp] theorem State.reach_lastTrip (s : State) (d : Nat) :
    (s.reach d).lastTrip = s.lastTrip := rfl
@[simp] theorem State.reach_groups (s : State) (d : Nat) :
    (s.reach d).groups = s.groups := rfl
@[simp] theorem State.reach_lastTag (s : State) (d : Nat) :
    (s.reach d).lastTag = s.lastTag := rfl
@[simp] theorem State.reach_cancels (s : State) (d : Nat) :
    (s.reach d).cancels = s.cancels := rfl
@[simp] theorem State.reach_inputs (s : State) (d : Nat) :
    (s.reach d).inputs = s.inputs := rfl
@[simp] theorem State.reach_lines (s : State) (d : Nat) :
    (s.reach d).lines = s.lines := rfl
@[simp] theorem State.reach_lockSet (s : State) (d : Nat) :
    (s.reach d).lockSet = s.lockSet := rfl
@[simp] theorem State.reach_recallFlag (s : State) (d : Nat) :
    (s.reach d).recallFlag = s.recallFlag := rfl
@[simp] theorem State.reach_mode (s : State) (d : Nat) :
    (s.reach d).mode = s.mode := rfl
@[simp] theorem State.reach_requests (s : State) (d : Nat) :
    (s.reach d).requests = s.requests := rfl
@[simp] theorem State.reach_responses (s : State) (d : Nat) :
    (s.reach d).responses = s.responses := rfl
@[simp] theorem State.reach_siteCode (s : State) (d : Nat) :
    (s.reach d).siteCode = s.siteCode := rfl
@[simp] theorem State.reach_events (s : State) (d : Nat) :
    (s.reach d).events = s.events := rfl
@[simp] theorem State.reach_notices (s : State) (d : Nat) :
    (s.reach d).notices = s.notices := rfl
@[simp] theorem State.reach_reports (s : State) (d : Nat) :
    (s.reach d).reports = s.reports := rfl
@[simp] theorem State.reach_image (s : State) (d : Nat) :
    (s.reach d).image = s.image := rfl
@[simp] theorem State.reach_saving (s : State) (d : Nat) :
    (s.reach d).saving = s.saving := rfl
@[simp] theorem State.reach_imageSequence (s : State) (d : Nat) :
    (s.reach d).imageSequence = s.imageSequence := rfl
@[simp] theorem State.reach_freeCount (s : State) (d : Nat) :
    (s.reach d).freeCount = s.freeCount := rfl
@[simp] theorem State.reach_pending (s : State) (d : Nat) :
    (s.reach d).pending = s.pending := rfl

/-! ## State.raise: an event -/

@[simp] theorem State.raise_resetHeld (s : State) (k : EventKind) :
    (s.raise k).resetHeld = s.resetHeld := rfl
@[simp] theorem State.raise_partState (s : State) (k : EventKind) :
    (s.raise k).partState = s.partState := rfl
@[simp] theorem State.raise_restart (s : State) (k : EventKind) :
    (s.raise k).restart = s.restart := rfl
@[simp] theorem State.raise_now (s : State) (k : EventKind) :
    (s.raise k).now = s.now := rfl
@[simp] theorem State.raise_nextSecond (s : State) (k : EventKind) :
    (s.raise k).nextSecond = s.nextSecond := rfl
@[simp] theorem State.raise_clock (s : State) (k : EventKind) :
    (s.raise k).clock = s.clock := rfl
@[simp] theorem State.raise_tables (s : State) (k : EventKind) :
    (s.raise k).tables = s.tables := rfl
@[simp] theorem State.raise_activeBank (s : State) (k : EventKind) :
    (s.raise k).activeBank = s.activeBank := rfl
@[simp] theorem State.raise_population (s : State) (k : EventKind) :
    (s.raise k).population = s.population := rfl
@[simp] theorem State.raise_terminals (s : State) (k : EventKind) :
    (s.raise k).terminals = s.terminals := rfl
@[simp] theorem State.raise_roundCount (s : State) (k : EventKind) :
    (s.raise k).roundCount = s.roundCount := rfl
@[simp] theorem State.raise_roundPosition (s : State) (k : EventKind) :
    (s.raise k).roundPosition = s.roundPosition := rfl
@[simp] theorem State.raise_exchange (s : State) (k : EventKind) :
    (s.raise k).exchange = s.exchange := rfl
@[simp] theorem State.raise_tReceiver (s : State) (k : EventKind) :
    (s.raise k).tReceiver = s.tReceiver := rfl
@[simp] theorem State.raise_gReceiver (s : State) (k : EventKind) :
    (s.raise k).gReceiver = s.gReceiver := rfl
@[simp] theorem State.raise_tLine (s : State) (k : EventKind) :
    (s.raise k).tLine = s.tLine := rfl
@[simp] theorem State.raise_gLine (s : State) (k : EventKind) :
    (s.raise k).gLine = s.gLine := rfl
@[simp] theorem State.raise_answers (s : State) (k : EventKind) :
    (s.raise k).answers = s.answers := rfl
@[simp] theorem State.raise_toTerminals (s : State) (k : EventKind) :
    (s.raise k).toTerminals = s.toTerminals := rfl
@[simp] theorem State.raise_toNetwork (s : State) (k : EventKind) :
    (s.raise k).toNetwork = s.toNetwork := rfl
@[simp] theorem State.raise_lastServed (s : State) (k : EventKind) :
    (s.raise k).lastServed = s.lastServed := rfl
@[simp] theorem State.raise_trips (s : State) (k : EventKind) :
    (s.raise k).trips = s.trips := rfl
@[simp] theorem State.raise_lastTrip (s : State) (k : EventKind) :
    (s.raise k).lastTrip = s.lastTrip := rfl
@[simp] theorem State.raise_groups (s : State) (k : EventKind) :
    (s.raise k).groups = s.groups := rfl
@[simp] theorem State.raise_lastTag (s : State) (k : EventKind) :
    (s.raise k).lastTag = s.lastTag := rfl
@[simp] theorem State.raise_cancels (s : State) (k : EventKind) :
    (s.raise k).cancels = s.cancels := rfl
@[simp] theorem State.raise_inputs (s : State) (k : EventKind) :
    (s.raise k).inputs = s.inputs := rfl
@[simp] theorem State.raise_lines (s : State) (k : EventKind) :
    (s.raise k).lines = s.lines := rfl
@[simp] theorem State.raise_lockSet (s : State) (k : EventKind) :
    (s.raise k).lockSet = s.lockSet := rfl
@[simp] theorem State.raise_recallFlag (s : State) (k : EventKind) :
    (s.raise k).recallFlag = s.recallFlag := rfl
@[simp] theorem State.raise_mode (s : State) (k : EventKind) :
    (s.raise k).mode = s.mode := rfl
@[simp] theorem State.raise_requests (s : State) (k : EventKind) :
    (s.raise k).requests = s.requests := rfl
@[simp] theorem State.raise_responses (s : State) (k : EventKind) :
    (s.raise k).responses = s.responses := rfl
@[simp] theorem State.raise_siteCode (s : State) (k : EventKind) :
    (s.raise k).siteCode = s.siteCode := rfl
@[simp] theorem State.raise_events (s : State) (k : EventKind) :
    (s.raise k).events = s.events.set {} k.number (s.event k).occurred := rfl
@[simp] theorem State.raise_reports (s : State) (k : EventKind) :
    (s.raise k).reports = s.reports := rfl
@[simp] theorem State.raise_image (s : State) (k : EventKind) :
    (s.raise k).image = s.image := rfl
@[simp] theorem State.raise_saving (s : State) (k : EventKind) :
    (s.raise k).saving = s.saving := rfl
@[simp] theorem State.raise_imageSequence (s : State) (k : EventKind) :
    (s.raise k).imageSequence = s.imageSequence := rfl
@[simp] theorem State.raise_freeCount (s : State) (k : EventKind) :
    (s.raise k).freeCount = s.freeCount := rfl
@[simp] theorem State.raise_pending (s : State) (k : EventKind) :
    (s.raise k).pending = s.pending := rfl

/-! ## Reads through the accessors -/

@[simp] theorem State.setTerminal_terminal_same (s : State) (t : Nat) (v : TerminalState) :
    (s.setTerminal t v).terminal t = v := Store.get_set_same ({} : TerminalState) s.terminals t v

theorem State.setTerminal_terminal_other (s : State) {t u : Nat} (v : TerminalState) (h : t ≠ u) :
    (s.setTerminal t v).terminal u = s.terminal u :=
  Store.get_set_other ({} : TerminalState) s.terminals v h

@[simp] theorem State.setGroup_group_same (s : State) (g : Nat) (v : GroupState) :
    (s.setGroup g v).group g = v := Store.get_set_same ({} : GroupState) s.groups g v

theorem State.setGroup_group_other (s : State) {g h : Nat} (v : GroupState) (hn : g ≠ h) :
    (s.setGroup g v).group h = s.group h := Store.get_set_other ({} : GroupState) s.groups v hn

@[simp] theorem State.setLine_line_same (s : State) (k : Nat) (v : LineState) :
    (s.setLine k v).line k = v := Store.get_set_same ({} : LineState) s.lines k v

theorem State.setLine_line_other (s : State) {k j : Nat} (v : LineState) (h : k ≠ j) :
    (s.setLine k v).line j = s.line j := Store.get_set_other ({} : LineState) s.lines v h

@[simp] theorem State.setLine_lineConfig (s : State) (k j : Nat) (v : LineState) :
    (s.setLine k v).lineConfig j = s.lineConfig j := rfl

@[simp] theorem State.setLineConfig_lineConfig_same (s : State) (k : Nat) (c : LineConfig) :
    (s.setLineConfig k c).lineConfig k = c :=
  Store.get_set_same ({} : LineConfig) s.tables.alarmLines k c

theorem State.setLineConfig_lineConfig_other (s : State) {k j : Nat} (c : LineConfig)
    (h : k ≠ j) : (s.setLineConfig k c).lineConfig j = s.lineConfig j :=
  Store.get_set_other ({} : LineConfig) s.tables.alarmLines c h

@[simp] theorem State.setLineConfig_line (s : State) (k j : Nat) (c : LineConfig) :
    (s.setLineConfig k c).line j = s.line j := rfl

@[simp] theorem State.setWay_way_same (s : State) (w : Nat) (e : Option BadgeEntry) :
    (s.setWay w e).way w = e := Store.get_set_same none s.tables.credentials w e

theorem State.setWay_way_other (s : State) {w v : Nat} (e : Option BadgeEntry) (h : w ≠ v) :
    (s.setWay w e).way v = s.way v := Store.get_set_other none s.tables.credentials e h

@[simp] theorem State.raise_event_same (s : State) (k : EventKind) :
    (s.raise k).event k = (s.event k).occurred :=
  Store.get_set_same ({} : EventCell) s.events k.number (s.event k).occurred

@[simp] theorem State.raise_terminal (s : State) (k : EventKind) (t : Nat) :
    (s.raise k).terminal t = s.terminal t := rfl

@[simp] theorem State.raise_group (s : State) (k : EventKind) (g : Nat) :
    (s.raise k).group g = s.group g := rfl

@[simp] theorem State.raise_line (s : State) (k : EventKind) (j : Nat) :
    (s.raise k).line j = s.line j := rfl

@[simp] theorem State.setTerminal_group (s : State) (t : Nat) (v : TerminalState) (g : Nat) :
    (s.setTerminal t v).group g = s.group g := rfl

@[simp] theorem State.setGroup_terminal (s : State) (g : Nat) (v : GroupState) (t : Nat) :
    (s.setGroup g v).terminal t = s.terminal t := rfl

/-! ## The standby bank -/

/-- A write of the standby bank changes nothing but the tables. -/
theorem State.setStandby_frame (s : State) (b : PolicyBank) :
    s.setStandby b = { s with tables := (s.setStandby b).tables } := by
  unfold State.setStandby; split <;> rfl

/-- The active bank is never written (R39). -/
@[simp] theorem State.setStandby_active (s : State) (b : PolicyBank) :
    (s.setStandby b).active = s.active := by
  unfold State.setStandby State.active
  cases h : s.activeBank <;> simp [State.bank]

/-- The standby bank reads as written. -/
@[simp] theorem State.setStandby_standby (s : State) (b : PolicyBank) :
    (s.setStandby b).standby = b := by
  unfold State.setStandby State.standby
  cases h : s.activeBank <;> simp [State.bank, BankName.other]

end Sys2Proof.Machine
end

