-- ==== Sys2Proof/Laws/Ops.lean ====
section
/-! SUPPORT. What each shared operation can do: a frame equation, which names the fields it may touch, and a lemma that says its effect. A field a frame equation does not name is unchanged: `congrArg` of the field over the equation says so. -/

namespace Sys2Proof.Machine

/-! ## Answers -/

theorem State.placeAnswer_frame (s : State) (a : Answer) :
    s.placeAnswer a = { s with
      answers := s.answers ++ [a], terminals := (s.placeAnswer a).terminals } := by
  unfold State.placeAnswer; dsimp only; split <;> rfl

/-- Any answer but ADMIT changes the answer FIFO alone (R78, R103). -/
theorem State.placeAnswer_other (s : State) (a : Answer) (h : a.verdict ≠ .admitted) :
    s.placeAnswer a = { s with answers := s.answers ++ [a] } := by
  unfold State.placeAnswer; rw [if_neg h]

/-- An ADMIT answer takes its terminal's hold count to 0 (R78). -/
theorem State.placeAnswer_admitted (s : State) (a : Answer) (h : a.verdict = .admitted) :
    s.placeAnswer a = ({ s with answers := s.answers ++ [a] } : State).setTerminal a.terminal
      { s.terminal a.terminal with holds := 0 } := by
  unfold State.placeAnswer; rw [if_pos h]; rfl

theorem State.endAwait_frame (s : State) (t : Trip) (a : Answer) :
    s.endAwait t a = { s with
      answers := (s.endAwait t a).answers, terminals := (s.endAwait t a).terminals } := by
  unfold State.endAwait
  split
  · rw [State.placeAnswer_frame]; rfl
  · rfl

/-- Nothing is answered when the trip's terminal does not await it (R59). -/
theorem State.endAwait_none (s : State) (t : Trip) (a : Answer)
    (h : (s.terminal t.terminal).service ≠ .awaiting t.number) : s.endAwait t a = s := by
  unfold State.endAwait; rw [if_neg h]

/-- The terminal that awaits the trip becomes IDLE and the answer is placed (R59, R105). -/
theorem State.endAwait_some (s : State) (t : Trip) (a : Answer)
    (h : (s.terminal t.terminal).service = .awaiting t.number) :
    s.endAwait t a =
      (s.setTerminal t.terminal { s.terminal t.terminal with service := .idle }).placeAnswer a := by
  unfold State.endAwait; rw [if_pos h]

/-! ## Trips -/

theorem State.failTrip_frame (s : State) (n : Nat) (r : Reason) :
    s.failTrip n r = { s with
      trips := (s.failTrip n r).trips, answers := (s.failTrip n r).answers
      terminals := (s.failTrip n r).terminals } := by
  unfold State.failTrip
  split
  · rfl
  · rw [State.endAwait_frame]; rfl

/-- A failed trip's record leaves and the others keep their order (R107, R121). -/
@[simp] theorem State.failTrip_trips (s : State) (n : Nat) (r : Reason) :
    (s.failTrip n r).trips = s.trips.filter (fun t => t.number ≠ n) := by
  unfold State.failTrip
  split
  · rename_i h
    refine (List.filter_eq_self.2 fun t ht => ?_).symm
    have := List.find?_eq_none.1 h t ht
    simpa using this
  · rw [State.endAwait_frame]; rfl

theorem State.withdrawQueue_fold_frame (cs : List Call) (r : Reason) (s : State) :
    cs.foldl (fun s c => s.failTrip c.trip r) s =
      { s with
        trips := (cs.foldl (fun s c => s.failTrip c.trip r) s).trips
        answers := (cs.foldl (fun s c => s.failTrip c.trip r) s).answers
        terminals := (cs.foldl (fun s c => s.failTrip c.trip r) s).terminals } := by
  induction cs generalizing s with
  | nil => rfl
  | cons c cs ih =>
    rw [List.foldl_cons]
    generalize hu : cs.foldl (fun s c => s.failTrip c.trip r) (s.failTrip c.trip r) = u
    have h := ih (s.failTrip c.trip r)
    rw [hu] at h
    exact h.trans (congrArg (fun x : State => { x with
      trips := u.trips, answers := u.answers, terminals := u.terminals })
      (State.failTrip_frame s c.trip r))

theorem State.withdrawQueue_frame (s : State) (g : Nat) :
    s.withdrawQueue g =
      { s.setGroup g { s.group g with queue := [] } with
        trips := (s.withdrawQueue g).trips, answers := (s.withdrawQueue g).answers
        terminals := (s.withdrawQueue g).terminals } := by
  unfold State.withdrawQueue
  exact State.withdrawQueue_fold_frame _ _ _

/-- A withdrawal removes exactly the records of the trips whose calls were queued (R141). -/
theorem State.withdrawQueue_trips (s : State) (g : Nat) :
    (s.withdrawQueue g).trips =
      s.trips.filter (fun t => (s.group g).queue.all (fun c => decide (t.number ≠ c.trip))) := by
  unfold State.withdrawQueue
  generalize (s.group g).queue = cs
  have key : ∀ (cs : List Call) (u : State),
      (cs.foldl (fun s c => s.failTrip c.trip .noService) u).trips =
        u.trips.filter (fun t => cs.all (fun c => decide (t.number ≠ c.trip))) := by
    intro cs
    induction cs with
    | nil => intro u; simp
    | cons c cs ih =>
      intro u
      rw [List.foldl_cons, ih, State.failTrip_trips, List.filter_filter]
      congr 1
      funext t
      simp [Bool.and_comm]
  simpa using key cs (s.setGroup g { s.group g with queue := [] })

/-- The withdrawn group's queue is empty (R141). -/
theorem State.withdrawQueue_group (s : State) (g : Nat) :
    (s.withdrawQueue g).group g = { s.group g with queue := [] } := by
  rw [State.withdrawQueue_frame]
  exact State.setGroup_group_same s g _

/-! ## The Cancel List and signs of life -/

theorem State.placeCancel_frame (s : State) (c : Cancel) :
    s.placeCancel c = { s with
      cancels := (s.placeCancel c).cancels, events := (s.placeCancel c).events
      notices := (s.placeCancel c).notices } := by
  unfold State.placeCancel; split_ifs <;> rfl

/-- Everything that placing a cancel can do (R139). -/
theorem State.placeCancel_cases (s : State) (c : Cancel) :
    (c ∈ s.cancels ∧ s.placeCancel c = s) ∨
    (c ∉ s.cancels ∧ s.cancels.length < Config.cancelRoom ∧
      s.placeCancel c = { s with cancels := s.cancels ++ [c] }) ∨
    (c ∉ s.cancels ∧ Config.cancelRoom ≤ s.cancels.length ∧
      s.placeCancel c = s.raise .cancelLost) := by
  unfold State.placeCancel
  split_ifs with h1 h2
  · exact .inl ⟨h1, rfl⟩
  · exact .inr (.inl ⟨h1, h2, rfl⟩)
  · exact .inr (.inr ⟨h1, not_lt.1 h2, rfl⟩)

theorem State.signOfLife_frame (s : State) (g : Nat) :
    s.signOfLife g = { s with
      groups := (s.signOfLife g).groups, events := (s.signOfLife g).events
      notices := (s.signOfLife g).notices } := by
  unfold State.signOfLife; split_ifs <;> rfl

/-- Everything that a sign of life can do (R138). -/
theorem State.signOfLife_cases (s : State) (g : Nat) :
    ((s.group g).service = .silent ∧
      s.signOfLife g = (s.setGroup g
        { s.group g with service := .inService, streak := 0 }).raise .groupRestored) ∨
    ((s.group g).service ≠ .silent ∧ s.signOfLife g = s) := by
  unfold State.signOfLife
  split_ifs with h
  · exact .inl ⟨h, rfl⟩
  · exact .inr ⟨h, rfl⟩

theorem State.signOfLifeFrom_frame (s : State) (st : Nat) :
    s.signOfLifeFrom st = { s with
      groups := (s.signOfLifeFrom st).groups, events := (s.signOfLifeFrom st).events
      notices := (s.signOfLifeFrom st).notices } := by
  unfold State.signOfLifeFrom
  split
  · rfl
  · exact State.signOfLife_frame s _

/-! ## Alarm lines, recall and the building mode -/

theorem State.raiseLine_frame (s : State) (c : LineConfig) (k : EventKind) :
    s.raiseLine c k = { s with
      events := (s.raiseLine c k).events, notices := (s.raiseLine c k).notices } := by
  unfold State.raiseLine; split_ifs <;> rfl

theorem State.followActive_frame (s : State) (k : Nat) (was : Bool) :
    s.followActive k was = { s with
      lines := (s.followActive k was).lines, events := (s.followActive k was).events
      notices := (s.followActive k was).notices } := by
  unfold State.followActive; dsimp only
  split_ifs
  · rw [State.raiseLine_frame]; rfl
  · rw [State.raiseLine_frame]; rfl
  · rfl

/-- The line state a change of activeness leaves (R148, R149). -/
theorem State.followActive_line (s : State) (k : Nat) (was : Bool) :
    (s.followActive k was).line k = { s.line k with
      status := followStatus (s.lineConfig k).edge was
        (lineActive (s.lineConfig k) (s.line k)) (s.line k).status } := by
  unfold State.followActive; dsimp only
  split_ifs
  · rw [State.raiseLine_frame]; exact State.setLine_line_same s k _
  · rw [State.raiseLine_frame]; exact State.setLine_line_same s k _
  · exact State.setLine_line_same s k _

theorem State.recallEntry_fold_frame (ts : List Trip) (u : State) :
    ts.foldl
        (fun s t => s.endAwait t (t.answer .denied (some .serviceSuspended) none none)) u =
      { u with
        answers := (ts.foldl (fun s t =>
          s.endAwait t (t.answer .denied (some .serviceSuspended) none none)) u).answers
        terminals := (ts.foldl (fun s t =>
          s.endAwait t (t.answer .denied (some .serviceSuspended) none none)) u).terminals } := by
  induction ts generalizing u with
  | nil => rfl
  | cons t ts ih =>
    rw [List.foldl_cons]
    generalize hw : ts.foldl (fun s t =>
      s.endAwait t (t.answer .denied (some .serviceSuspended) none none))
      (u.endAwait t (t.answer .denied (some .serviceSuspended) none none)) = w
    have h := ih (u.endAwait t (t.answer .denied (some .serviceSuspended) none none))
    rw [hw] at h
    exact h.trans (congrArg (fun x : State => { x with
      answers := w.answers, terminals := w.terminals }) (State.endAwait_frame u t _))

/-- Recall entry discards every call, trip and Cancel List entry, and touches nothing but the answers, the
terminals and the events beside them (R142, R156). -/
theorem State.recallEntry_frame (s : State) :
    s.recallEntry = { s with
      groups := s.groups.mapValues {} GroupState.cleared, cancels := [], trips := []
      answers := s.recallEntry.answers, terminals := s.recallEntry.terminals
      events := s.recallEntry.events, notices := s.recallEntry.notices } := by
  unfold State.recallEntry; dsimp only
  rw [State.recallEntry_fold_frame]; rfl

theorem State.formMode_frame (s : State) :
    s.formMode = { s with
      mode := s.formMode.mode, groups := s.formMode.groups, cancels := s.formMode.cancels
      trips := s.formMode.trips, answers := s.formMode.answers
      terminals := s.formMode.terminals, events := s.formMode.events
      notices := s.formMode.notices } := by
  unfold State.formMode
  split_ifs
  · rfl
  · split
    · rw [State.recallEntry_frame]
    · rfl

/-- Everything that forming the building mode anew can do (R155). -/
theorem State.formMode_cases (s : State) :
    (s.formedMode = s.mode ∧ s.formMode = s) ∨
    (s.formedMode = .recall ∧ s.mode = .normal ∧
      s.formMode = ({ s with mode := .recall } : State).recallEntry) ∨
    (s.formedMode = .normal ∧ s.mode = .recall ∧
      s.formMode = ({ s with mode := .normal } : State).raise .recallLeft) := by
  unfold State.formMode
  by_cases h : s.formedMode = s.mode
  · exact .inl ⟨h, if_pos h⟩
  · rw [if_neg h]
    cases hf : s.formedMode <;> cases hm : s.mode <;> simp_all

/-- The building mode stands as the recall flag and the lines form it (R155). -/
theorem State.formMode_mode (s : State) : s.formMode.mode = s.formedMode := by
  rcases s.formMode_cases with ⟨h, e⟩ | ⟨h, _, e⟩ | ⟨h, _, e⟩
  · rw [e, h]
  · rw [e, h, State.recallEntry_frame]
  · rw [e, h]; rfl

theorem State.acceptLevel_frame (s : State) (k : Nat) (v : Level) :
    s.acceptLevel k v = { s with
      lines := (s.acceptLevel k v).lines
      mode := (s.acceptLevel k v).mode, groups := (s.acceptLevel k v).groups
      cancels := (s.acceptLevel k v).cancels, trips := (s.acceptLevel k v).trips
      answers := (s.acceptLevel k v).answers, terminals := (s.acceptLevel k v).terminals
      events := (s.acceptLevel k v).events, notices := (s.acceptLevel k v).notices } := by
  unfold State.acceptLevel
  rw [State.formMode_frame, State.followActive_frame]; rfl

theorem State.startDebounce_frame (s : State) (k : Nat) :
    s.startDebounce k = { s with
      lines := (s.startDebounce k).lines
      mode := (s.startDebounce k).mode, groups := (s.startDebounce k).groups
      cancels := (s.startDebounce k).cancels, trips := (s.startDebounce k).trips
      answers := (s.startDebounce k).answers, terminals := (s.startDebounce k).terminals
      events := (s.startDebounce k).events, notices := (s.startDebounce k).notices } := by
  unfold State.startDebounce
  split_ifs
  · exact State.acceptLevel_frame s k _
  · rfl

/-! ## The credential count-down -/

theorem State.countDown_frame (s : State) (k : BadgeKey) :
    s.countDown k = { s with tables := (s.countDown k).tables } := by
  unfold State.countDown
  split
  · rfl
  · split
    · rfl
    · split_ifs <;> rfl

/-! ## The admission decision -/

theorem State.countDenial_frame (s : State) (t : Nat) :
    s.countDenial t = { s with
      terminals := (s.countDenial t).terminals, events := (s.countDenial t).events
      notices := (s.countDenial t).notices } := by
  unfold State.countDenial; dsimp only; split_ifs <;> rfl

theorem State.deny_frame (s : State) (t : Nat) (r : Reason) (d : Option Nat) :
    s.deny t r d = { s with
      answers := (s.deny t r d).answers, terminals := (s.deny t r d).terminals
      events := (s.deny t r d).events, notices := (s.deny t r d).notices } := by
  unfold State.deny
  split_ifs
  · rw [State.placeAnswer_frame, State.countDenial_frame]
  · rw [State.placeAnswer_frame]

theorem State.supersede_frame (s : State) (t : Trip) :
    s.supersede t = { s with
      groups := (s.supersede t).groups, cancels := (s.supersede t).cancels
      trips := (s.supersede t).trips, answers := (s.supersede t).answers
      terminals := (s.supersede t).terminals, events := (s.supersede t).events
      notices := (s.supersede t).notices } := by
  unfold State.supersede; dsimp only
  split
  · rw [State.endAwait_frame]; rfl
  · rw [State.endAwait_frame, State.placeCancel_frame]; rfl
  · rw [State.placeCancel_frame]; rfl
  · rw [State.placeCancel_frame]; rfl

theorem State.makeRoom_frame (s : State) : s.makeRoom = { s with trips := s.makeRoom.trips } := by
  unfold State.makeRoom; split_ifs <;> rfl

theorem State.queueReport_frame (s : State) (r : Report) :
    s.queueReport r = { s with
      reports := (s.queueReport r).reports, events := (s.queueReport r).events
      notices := (s.queueReport r).notices } := by
  unfold State.queueReport; split_ifs <;> rfl

/-- Everything that queueing a report can do (R185). -/
theorem State.queueReport_cases (s : State) (r : Report) :
    (s.settings.reporting = false ∧ s.queueReport r = s) ∨
    (s.settings.reporting = true ∧ s.reports.length < Config.reportRoom ∧
      s.queueReport r = { s with reports := s.reports ++ [r] }) ∨
    (s.settings.reporting = true ∧ Config.reportRoom ≤ s.reports.length ∧
      s.queueReport r = s.raise .reportsLost) := by
  unfold State.queueReport
  by_cases h : s.settings.reporting = true
  · by_cases h2 : s.reports.length < Config.reportRoom
    · exact .inr (.inl ⟨h, h2, by simp [h, h2]⟩)
    · exact .inr (.inr ⟨h, not_lt.1 h2, by simp [h, h2]⟩)
  · exact .inl ⟨by simpa using h, by simp [h]⟩

theorem State.createTrip_frame (s : State) (t : Nat) (k : BadgeKey) (f g : Nat) (v : Option Nat)
    (n : Bool) :
    s.createTrip t k f g v n = { s with
      groups := (s.createTrip t k f g v n).groups
      cancels := (s.createTrip t k f g v n).cancels
      trips := (s.createTrip t k f g v n).trips
      lastTrip := (s.createTrip t k f g v n).lastTrip
      lastTag := (s.createTrip t k f g v n).lastTag
      answers := (s.createTrip t k f g v n).answers
      terminals := (s.createTrip t k f g v n).terminals
      events := (s.createTrip t k f g v n).events
      notices := (s.createTrip t k f g v n).notices } := by
  unfold State.createTrip; dsimp only
  rw [State.makeRoom_frame]
  split
  · rw [State.supersede_frame]; rfl
  · rfl

theorem State.carryOn_frame (s : State) (t : Nat) (x : Trip) (g : Nat) (n : Bool) :
    s.carryOn t x g n = { s with
      trips := (s.carryOn t x g n).trips, groups := (s.carryOn t x g n).groups
      terminals := (s.carryOn t x g n).terminals, lastTag := (s.carryOn t x g n).lastTag } := rfl

/-- Everything a decision can touch (R82). -/
theorem State.applyEnding_frame (s : State) (t : Nat) (d : Decision) :
    s.applyEnding t d = { s with
      groups := (s.applyEnding t d).groups, cancels := (s.applyEnding t d).cancels
      trips := (s.applyEnding t d).trips, lastTrip := (s.applyEnding t d).lastTrip
      lastTag := (s.applyEnding t d).lastTag, answers := (s.applyEnding t d).answers
      terminals := (s.applyEnding t d).terminals, events := (s.applyEnding t d).events
      notices := (s.applyEnding t d).notices } := by
  unfold State.applyEnding
  split
  · rw [State.deny_frame]; split_ifs <;> rfl
  · rw [State.placeAnswer_frame]
  · rw [State.placeAnswer_frame]
  · rw [State.createTrip_frame]
  · rfl

/-- Everything a presentation handed to the Admission Unit can touch (R81, R82, R106). -/
theorem State.admission_frame (s : State) (p : Presentation) :
    s.admission p = { s with
      groups := (s.admission p).groups, cancels := (s.admission p).cancels
      trips := (s.admission p).trips, lastTrip := (s.admission p).lastTrip
      lastTag := (s.admission p).lastTag, answers := (s.admission p).answers
      terminals := (s.admission p).terminals, events := (s.admission p).events
      notices := (s.admission p).notices, reports := (s.admission p).reports } := by
  unfold State.admission; dsimp only
  rw [State.queueReport_frame, State.applyEnding_frame]

/-! ## The poll's miss and good reply -/

theorem State.miss_frame (s : State) (x : Exchange) :
    s.miss x = { s with
      terminals := (s.miss x).terminals, events := (s.miss x).events
      notices := (s.miss x).notices } := by
  unfold State.miss; dsimp only; split_ifs <;> rfl

theorem State.goodReply_frame (s : State) (x : Exchange) :
    s.goodReply x = { s with
      terminals := (s.goodReply x).terminals, events := (s.goodReply x).events
      notices := (s.goodReply x).notices } := by
  unfold State.goodReply; dsimp only; split_ifs <;> rfl

/-! ## The allocators -/

/-- The allocator answers a number that is not held, unless every number it tried is held (R109, R128). -/
theorem firstFree_not_held (held : Nat → Bool) (top : Nat) (fuel n : Nat)
    (h : ∃ i < fuel, held ((following top)^[i] n) = false) :
    held (firstFree held top fuel n) = false := by
  induction fuel generalizing n with
  | zero => obtain ⟨i, hi, _⟩ := h; omega
  | succ fuel ih =>
    rw [firstFree]
    split_ifs with hn
    all_goals first
      | (obtain ⟨i, hi, hf⟩ := h
         cases i with
         | zero => simp [hn] at hf
         | succ i =>
           refine ih _ ⟨i, by omega, ?_⟩
           rw [Function.iterate_succ_apply] at hf
           simpa [following, *] using hf)
      | simpa using hn

end Sys2Proof.Machine
end

