-- ==== Sys2Proof/Laws/Decision.lean ====
section
/-! SUPPORT. What the decision's searches and unions yield, in terms of membership: the band landings, the zone lock set, the one-leg search and the group of a station. -/

namespace Sys2Proof.Machine

/-- A union built up over a list of indexes holds a member exactly when it began with it or an index adds
it. -/
theorem mem_foldl_union {w : Nat} (f : BitVec w → Nat → BitVec w) (adds : Nat → Prop) (l : Nat)
    (h : ∀ z i, memSet (f z i) l = true ↔ memSet z l = true ∨ adds i) (is : List Nat)
    (z : BitVec w) :
    memSet (is.foldl f z) l = true ↔ memSet z l = true ∨ ∃ i ∈ is, adds i := by
  induction is generalizing z with
  | nil => simp
  | cons i is ih => rw [List.foldl_cons, ih, h]; simp [or_assoc]

@[simp] theorem memSet_zero {w : Nat} (l : Nat) : memSet (0 : BitVec w) l = false := by
  simp [memSet]

@[simp] theorem memSet_or {w : Nat} (a b : BitVec w) (l : Nat) :
    memSet (a ||| b) l = (memSet a l || memSet b l) := by
  simp [memSet]

/-- The band landings are those of the profile's bands in force (R45). -/
theorem State.mem_bandLandings (s : State) (profile l : Nat) :
    memSet (s.bandLandings profile) l = true ↔
      ∃ slot ≤ 3, ∃ b, s.active.profiles.get none (4 * profile + slot) = some b ∧
        s.bandInForce b = true ∧ memSet b.landings l = true := by
  unfold State.bandLandings
  rw [mem_foldl_union _ (fun slot => ∃ b,
    s.active.profiles.get none (4 * profile + slot) = some b ∧ s.bandInForce b = true ∧
      memSet b.landings l = true)]
  · simp only [memSet_zero, Bool.false_eq_true, false_or]
    constructor
    · rintro ⟨i, hi, h⟩
      exact ⟨i, by simp at hi; omega, h⟩
    · rintro ⟨i, hi, h⟩
      exact ⟨i, by simp; omega, h⟩
  · intro z i
    cases h : s.active.profiles.get none (4 * profile + i) with
    | none => simp
    | some b => by_cases h2 : s.bandInForce b = true <;> simp [h2]

/-- A zone is locked by the management lock set or by a line in force with action LOCK_ZONES (R154). -/
theorem State.mem_zoneLocks (s : State) (z : Nat) :
    memSet s.zoneLocks z = true ↔ memSet s.lockSet z = true ∨
      ∃ k ∈ lineNumbers, lineInForce (s.lineConfig k) (s.line k) = true ∧
        (s.lineConfig k).action = .lockZones ∧ memSet (s.lineConfig k).zones z = true := by
  unfold State.zoneLocks
  refine mem_foldl_union _ (fun k => lineInForce (s.lineConfig k) (s.line k) = true ∧
    (s.lineConfig k).action = .lockZones ∧ memSet (s.lineConfig k).zones z = true) z ?_ _ _
  intro y k
  by_cases h1 : lineInForce (s.lineConfig k) (s.line k) = true <;>
    by_cases h2 : (s.lineConfig k).action = .lockZones <;> simp [h1, h2]

/-- The one-leg search yields the first group in the order of the numbers that will do (R14, R15). -/
theorem State.oneLeg_eq_some (s : State) (any : Bool) (o d g : Nat) (h : s.oneLeg any o d = some g) :
    g ∈ groupNumbers ∧ (any || s.inService g) = true ∧ s.serves g o = true ∧
      s.serves g d = true := by
  unfold State.oneLeg at h
  have h1 := List.mem_of_find?_eq_some h
  have h2 := List.find?_some h
  simp only [Bool.and_eq_true] at h2
  exact ⟨h1, h2.1.1, h2.1.2, h2.2⟩

theorem State.oneLeg_eq_none (s : State) (any : Bool) (o d : Nat) :
    s.oneLeg any o d = none ↔ ∀ g ∈ groupNumbers,
      ¬ ((any || s.inService g) = true ∧ s.serves g o = true ∧ s.serves g d = true) := by
  simp only [State.oneLeg, List.find?_eq_none, Bool.and_eq_true, and_assoc]

/-- The group of a station, as the frames from it are attributed (R132). -/
theorem State.groupOfStation_eq_some (s : State) (st g : Nat) (h : s.groupOfStation st = some g) :
    g ∈ groupNumbers ∧ (s.groupConfig g).station = some st := by
  unfold State.groupOfStation at h
  exact ⟨List.mem_of_find?_eq_some h, by simpa using List.find?_some h⟩

end Sys2Proof.Machine
end

