-- ==== Sys2Proof/Laws/Forms.lean ====
section
/-! SUPPORT. The forms of frames and records: the model's numbers and layouts are those of the spec's tables as Sys2Proof.Safety writes them, and what the allocators answer. -/

namespace Sys2Proof.Safety

open Sys2Proof.Machine

/-! ## Code numbers -/

@[simp] theorem verdicts_idxOf (v : Verdict) : verdicts.idxOf v + 1 = v.code := by
  cases v <;> decide

@[simp] theorem reasons_idxOf (r : Reason) : reasons.idxOf r + 1 = r.code := by
  cases r <;> decide

@[simp] theorem responseCodes_idxOf (c : Code) : responseCodes.idxOf c = c.number := by
  cases c <;> decide

@[simp] theorem eventKinds_idxOf (k : EventKind) : eventKinds.idxOf k = k.number := by
  cases k <;> decide

@[simp] theorem verdictByte_eq (v : Verdict) : verdictByte v = byteOf v.code := by
  simp [verdictByte]

@[simp] theorem reasonByte_eq (r : Option Reason) :
    reasonByte r = byteOf ((r.map Reason.code).getD 0) := by
  cases r <;> simp [reasonByte, orElse, byteOf]

@[simp] theorem flag_eq (w : Nat) (p : Prop) [Decidable p] : flag w p = if p then w else 0 := rfl

@[simp] theorem orElse_some (b : Byte) (n : Nat) : orElse b (some n) = byteOf n := rfl

@[simp] theorem orElse_none (b : Byte) : orElse b none = b := rfl

/-! ## Layouts -/

/-- The ANSWER's payload is that of 12.2. -/
theorem answerPayload_eq (a : Answer) (overrun : Bool) :
    answerPayload a overrun = answerBytes a overrun := by
  obtain ⟨_, _, _, d, c, t, _⟩ := a
  cases d <;> cases c <;> cases t <;> simp [answerPayload, answerBytes, optByte, carByte, byteOf]

/-- The REPORT's payload is that of 12.3. -/
theorem reportPayload_eq (r : Report) : reportPayload r = reportBytes r := by
  obtain ⟨_, _, _, k, _, d, _, _, l⟩ := r
  cases k <;> cases d <;> cases l <;>
    simp [reportPayload, reportBytes, optByte, keyBytes, bytesOfNat, Option.isSome_iff_ne_none,
      byteOf]

/-- Class and state of a badge entry share one byte, the class in its two high bits (12.4). -/
theorem classAndState_eq (c : CredClass) (s : EntryState) :
    64 * [CredClass.staff, .visitor, .service, .override].idxOf c +
      [EntryState.active, .suspended, .lost].idxOf s = c.code * 64 + s.code := by
  cases c <;> cases s <;> decide

/-- A returned badge entry is that of 12.4. -/
theorem badgeBytes_eq (e : BadgeEntry) (n : Nat) : badgeBytes e n = entryBytes e n := by
  obtain ⟨_, _, _, _, t, _, d, v, l, _⟩ := e
  cases t <;> cases d <;> cases v <;> cases l <;>
    simp [badgeBytes, entryBytes, classAndState_eq, keyBytes, optByte, orElse, byteOf]

/-- A returned trip record is that of R108 and R125. -/
theorem tripBytes_eq (now : Nat) (x : Trip) : tripBytes now x = tripRecordBytes now x := by
  obtain ⟨_, _, _, _, _, _, t, _, _, _, c, s, _, e⟩ := x
  cases t <;> cases c <;> cases s <;> cases e <;>
    simp [tripBytes, tripRecordBytes, keyBytes, optByte, carByte, secondsLeft, TripState.code, byteOf]

/-- The value of a Settings item is that of its row in R179. -/
theorem settingBytes_eq (c : Settings) (i : Nat) (h : i ≤ 15) :
    settingBytes c i = (settingValues c).getD i [] := by
  interval_cases i <;> simp [settingBytes, settingValues, boolByte, kindSetBytes] <;> split <;> rfl

/-! ## The bits of a run of bytes -/

@[simp] theorem bitsOf_nil : bitsOf [] = [] := rfl

@[simp] theorem bitsOf_append (bs cs : List Byte) : bitsOf (bs ++ cs) = bitsOf bs ++ bitsOf cs :=
  List.flatMap_append

/-- The check goes on over further bytes from where it stands (R163). -/
theorem checkOfBytes_append (bs cs : List Byte) :
    checkOfBytes (bs ++ cs) = (bitsOf cs).foldl checkStep (checkOfBytes bs) := by
  simp [checkOfBytes]

/-! ## The allocators -/

/-- Every number but the last one issued comes before it (R109, R128). -/
theorem stepsTo_le {top last m : Nat} (h1 : 1 ≤ m) (h2 : m ≤ top) :
    1 ≤ stepsTo top last m ∧ stepsTo top last m ≤ top := by
  unfold stepsTo; split_ifs <;> omega

/-- Two numbers are not the same way off. -/
theorem stepsTo_injective {top last m n : Nat} (h1 : 1 ≤ m) (h2 : m ≤ top) (h3 : 1 ≤ n)
    (h4 : n ≤ top) (h : stepsTo top last m = stepsTo top last n) : m = n := by
  unfold stepsTo at h; split_ifs at h <;> omega

/-- The number that follows is one step further off. -/
theorem stepsTo_following {top last n : Nat} (h1 : 1 ≤ n) (h2 : n ≤ top)
    (h : stepsTo top last n < top) :
    1 ≤ following top n ∧ following top n ≤ top ∧
      stepsTo top last (following top n) = stepsTo top last n + 1 := by
  unfold stepsTo following at *; split_ifs at * <;> omega

/-- The search from a number before which every one is held answers the first that is not (R109, R128). -/
theorem firstFree_first (held : Nat → Bool) (top last fuel n : Nat) (h1 : 1 ≤ n) (h2 : n ≤ top)
    (hs : stepsTo top last n + fuel = top + 1)
    (hb : ∀ m, 1 ≤ m → m ≤ top → stepsTo top last m < stepsTo top last n → held m = true)
    (hf : ∃ m, 1 ≤ m ∧ m ≤ top ∧ held m = false) :
    Allocated top last (fun m => held m = true) (firstFree held top fuel n) := by
  induction fuel generalizing n with
  | zero => have := (stepsTo_le (last := last) h1 h2).2; omega
  | succ fuel ih =>
    rw [firstFree]
    by_cases hn : held n = true
    · rw [if_pos hn]
      have upTo : ∀ m, 1 ≤ m → m ≤ top → stepsTo top last m ≤ stepsTo top last n →
          held m = true := by
        intro m g1 g2 g
        rcases Nat.lt_or_eq_of_le g with g | g
        · exact hb m g1 g2 g
        · rw [stepsTo_injective g1 g2 h1 h2 g]; exact hn
      obtain ⟨m, g1, g2, g⟩ := hf
      have far : stepsTo top last n < top := by
        by_contra hc
        have := (stepsTo_le (last := last) g1 g2).2
        rw [upTo m g1 g2 (by omega)] at g
        exact absurd g (by decide)
      obtain ⟨f1, f2, f3⟩ := stepsTo_following h1 h2 far
      exact ih (following top n) f1 f2 (by omega)
        (fun m g1 g2 g => upTo m g1 g2 (by omega))
    · rw [if_neg hn]
      exact ⟨h1, h2, hn, hb⟩

/-- An allocator takes the first number after the last one issued that is not held (R109, R128). -/
theorem firstFree_allocated (held : Nat → Bool) (top last : Nat)
    (hf : ∃ m, 1 ≤ m ∧ m ≤ top ∧ held m = false) :
    Allocated top last (fun m => held m = true)
      (firstFree held top top (following top last)) := by
  have ht : 1 ≤ top := by obtain ⟨m, g1, g2, -⟩ := hf; omega
  have first : 1 ≤ following top last ∧ following top last ≤ top ∧
      stepsTo top last (following top last) = 1 := by
    unfold stepsTo following; split_ifs <;> omega
  refine firstFree_first held top last top _ first.1 first.2.1 (by omega) ?_ hf
  intro m g1 g2 g
  have := (stepsTo_le (last := last) g1 g2).1
  omega

end Sys2Proof.Safety
end

