-- ==== Sys2Proof/Laws/Management.lean ====
section
/-! SUPPORT. How a request is taken and answered: what `State.serve` does when it takes a request and when it does not, and what each check of R175 lets through. -/

namespace Sys2Proof.Machine

/-! ## Taking a request (R173) -/

/-- A request is at the head of the request FIFO and the Agent may take it. -/
def State.taken (s : State) (mine : List Byte → Bool) (p : List Byte) (rest : List (List Byte)) :
    Prop :=
  s.requests = p :: rest ∧ s.agentFree = true ∧ mine p = true

/-- What the Agent leaves when it takes a request. -/
theorem State.serve_taken (s : State) (mine : List Byte → Bool)
    (handle : List Byte → State → Reply) {p : List Byte} {rest : List (List Byte)}
    (h : s.taken mine p rest) :
    s.serve mine handle =
      (handle p { s with requests := rest }).state.respond p
        (handle p { s with requests := rest }).code
        (handle p { s with requests := rest }).data := by
  obtain ⟨hr, hf, hm⟩ := h
  simp [State.serve, hr, hf, hm]

/-- Everything that serving can do: the head request is taken, or nothing changes. -/
theorem State.serve_cases (s : State) (mine : List Byte → Bool)
    (handle : List Byte → State → Reply) :
    (∃ p rest, s.taken mine p rest ∧
      s.serve mine handle =
        (handle p { s with requests := rest }).state.respond p
          (handle p { s with requests := rest }).code
          (handle p { s with requests := rest }).data) ∨
    ((∀ p rest, ¬ s.taken mine p rest) ∧ s.serve mine handle = s) := by
  cases hr : s.requests with
  | nil =>
    refine .inr ⟨?_, by simp [State.serve, hr]⟩
    rintro p rest ⟨h, -, -⟩
    simp [hr] at h
  | cons p rest =>
    by_cases h : (s.agentFree && mine p) = true
    · have h' : s.taken mine p rest := by
        simpa [State.taken, hr] using h
      exact .inl ⟨p, rest, h', s.serve_taken mine handle h'⟩
    · refine .inr ⟨?_, by simp [State.serve, hr, h]⟩
      rintro q rest' ⟨h1, h2, h3⟩
      rw [hr] at h1
      obtain ⟨rfl, rfl⟩ := List.cons.inj h1
      exact h (by simp [h2, h3])

/-- A response touches the response FIFO, and the free counter when the request lacks a byte. -/
theorem State.respond_frame (s : State) (p : List Byte) (c : Code) (d : List Byte) :
    s.respond p c d = { s with
      responses := (s.respond p c d).responses, freeCount := (s.respond p c d).freeCount } := rfl

/-- The response of a request that has its request number and operation (R174). -/
theorem State.respond_echo (s : State) (p : List Byte) (c : Code) (d : List Byte)
    (h : 2 ≤ p.length) :
    s.respond p c d = { s with
      responses := s.responses ++ [⟨p.getD 0 0, p.getD 1 0, c, d⟩] } := by
  obtain _ | ⟨a, _ | ⟨b, q⟩⟩ := p
  · simp at h
  · simp at h
  · simp [State.respond]

/-! ## The checks (R175) -/

theorem State.checkLength_pass (s : State) (p : List Byte) (need : Nat) (k : Reply)
    (h : need ≤ p.length) : s.checkLength p need k = k := by
  simp [State.checkLength, not_lt.2 h]

theorem State.checkLength_fail (s : State) (p : List Byte) (need : Nat) (k : Reply)
    (h : p.length < need) : s.checkLength p need k = s.refuse .badField := by
  simp [State.checkLength, h]

theorem State.checkCode_pass (s : State) (p : List Byte) (k : Reply)
    (h : requestCode p = s.siteCode.code) : s.checkCode p k = k := by
  simp [State.checkCode, h]

theorem State.checkCode_fail (s : State) (p : List Byte) (k : Reply)
    (h : requestCode p ≠ s.siteCode.code) :
    s.checkCode p k = (s.raise .authFailed).refuse .notAuthorized := by
  simp [State.checkCode, h]

theorem State.checkSaving_pass (s : State) (k : Reply) (h : s.saving = none) :
    s.checkSaving k = k := by
  simp [State.checkSaving, h]

theorem State.checkIndex_pass (s : State) (ok : Bool) (k : Reply) (h : ok = true) :
    s.checkIndex ok k = k := by
  simp [State.checkIndex, h]

theorem State.checkField_pass (s : State) (ok : Bool) (k : Reply) (h : ok = true) :
    s.checkField ok k = k := by
  simp [State.checkField, h]

/-- A request that passes the three checks before a change reaches the table's own checks. -/
theorem State.checkChange_pass (s : State) (p : List Byte) (need : Nat) (k : Reply)
    (hl : need ≤ p.length) (hc : requestCode p = s.siteCode.code) (hs : s.saving = none) :
    s.checkChange p need k = k := by
  rw [State.checkChange, s.checkLength_pass p need _ hl, s.checkCode_pass p _ hc,
    s.checkSaving_pass _ hs]

/-- A command that passes the two checks before it has its effect. -/
theorem State.checkCommand_pass (s : State) (p : List Byte) (need : Nat) (k : Reply)
    (hl : need ≤ p.length) (hc : requestCode p = s.siteCode.code) :
    s.checkCommand p need k = k := by
  rw [State.checkCommand, s.checkLength_pass p need _ hl, s.checkCode_pass p _ hc]

end Sys2Proof.Machine
end

