-- ==== Sys2Proof/Laws/Requests.lean ====
section
/-! SUPPORT. The occurrences that an operation makes, and a request that stands at the head of the request FIFO, in the statements' own terms: that the Agent takes it, and what is left when its handling has answered. -/

namespace Sys2Proof.Safety

open Sys2Proof.Machine

/-- The kinds' numbers are all different. -/
theorem EventKind.number_injective : Function.Injective EventKind.number := by
  intro j k h; cases j <;> cases k <;> first | rfl | simp [EventKind.number] at h

/-- Another kind's status and count are untouched by an occurrence (R181). -/
theorem State.raise_event_other (s : State) {j k : EventKind} (h : j ≠ k) :
    (s.raise k).event j = s.event j :=
  Store.get_set_other ({} : EventCell) s.events (s.event k).occurred
    fun e => h (EventKind.number_injective e).symm

/-- The notices that an occurrence leaves (R181, R182). -/
theorem State.raise_notices (s : State) (k : EventKind) : (s.raise k).notices = noticed s k := by
  refine if_congr ?_ rfl rfl
  simp [State.enabled, Config.noticeRoom, and_assoc]
  exact fun _ _ => decide_eq_true_iff

/-- One occurrence counts and queues its notice, and no other kind's does (R181, R182). -/
theorem counted_raise (s : State) (k : EventKind) : Counted s (s.raise k) k :=
  ⟨s.raise_event_same k, fun _ h => State.raise_event_other s h, State.raise_notices s k⟩

@[simp] theorem onlyIf_true {p : Prop} [Decidable p] (h : p) (k : EventKind) : onlyIf p k = [k] :=
  if_pos h

@[simp] theorem onlyIf_false {p : Prop} [Decidable p] (h : ¬ p) (k : EventKind) :
    onlyIf p k = [] := if_neg h

/-- Without a change of the mode there is no event of it. -/
theorem modeEvents_of_eq {s t : State} (h : t.mode = s.mode) : modeEvents s t = [] := by
  unfold modeEvents onlyIf; rw [h]; cases s.mode <;> simp

/-- Without an occurrence the events and notices stay. -/
theorem Raised.refl (s : State) : Raised s s [] := ⟨fun _ => rfl, rfl⟩

/-- An occurrence, and then the others. -/
theorem Raised.raise {s t : State} {k : EventKind} {ks : List EventKind}
    (h : Raised (s.raise k) t ks) : Raised s t (k :: ks) := ⟨s.raise k, rfl, counted_raise s k, h⟩

/-- What occurrences leave depends on the events and the notices alone at the end. -/
theorem Raised.of_end {ks : List EventKind} : ∀ {s t u : State}, Raised s t ks →
    u.events = t.events → u.notices = t.notices → Raised s u ks := by
  induction ks with
  | nil =>
    intro s t u h he hn
    exact ⟨fun j => by rw [← h.1 j, State.event, State.event, he], by rw [hn, h.2]⟩
  | cons k ks ih =>
    rintro s t u ⟨v, hv, hc, hr⟩ he hn
    exact ⟨v, hv, hc, ih hr he hn⟩

/-- And on the events, the notices and the event enables alone at the start. -/
theorem Raised.of_start {ks : List EventKind} {s t u : State} (h : Raised s t ks)
    (he : ∀ j, u.event j = s.event j) (hn : u.notices = s.notices)
    (hs : u.tables.settings.enables = s.tables.settings.enables) : Raised u t ks := by
  cases ks with
  | nil => exact ⟨fun j => by rw [h.1 j, he], by rw [h.2, hn]⟩
  | cons k ks =>
    obtain ⟨v, hv, ⟨hc, ho, hq⟩, hr⟩ := h
    have hve : v.tables.settings.enables = u.tables.settings.enables := by rw [hv, hs]
    refine ⟨{ u with events := v.events, notices := v.notices }, rfl, ⟨?_, ?_, ?_⟩,
      hr.of_start (fun _ => rfl) rfl hve.symm⟩
    · rw [bumped, he]; exact hc
    · intro j hj; rw [he]; exact ho j hj
    · simp only [noticed, he, hn, hs]; exact hq

/-- The occurrences of two lists, one list after the other. -/
theorem Raised.append {ks js : List EventKind} {s u t : State} (h : Raised s u ks)
    (hs : u.tables.settings.enables = s.tables.settings.enables) (g : Raised u t js) :
    Raised s t (ks ++ js) := by
  induction ks generalizing s with
  | nil => exact g.of_start (fun j => (h.1 j).symm) h.2.symm hs.symm
  | cons k ks ih =>
    obtain ⟨v, hv, hc, hr⟩ := h
    exact ⟨v, hv, hc, ih hr (by rw [hs, hv])⟩

/-- Placing a cancel raises CANCEL_LOST exactly at a full list that does not hold it (R139). -/
theorem raised_placeCancel (s : State) (c : Cancel) :
    Raised s (s.placeCancel c) (onlyIf (c ∉ s.cancels ∧ 32 ≤ s.cancels.length) .cancelLost) := by
  rcases s.placeCancel_cases c with ⟨h, e⟩ | ⟨h, hl, e⟩ | ⟨h, hl, e⟩ <;> rw [e]
  · rw [onlyIf_false (fun g => g.1 h)]; exact Raised.refl s
  · rw [onlyIf_false (fun g => Nat.not_lt.2 g.2 hl)]; exact Raised.refl s
  · rw [onlyIf_true ⟨h, hl⟩]; exact (Raised.refl _).raise

/-- Queueing a report raises REPORTS_LOST exactly at a full Report FIFO (R185). -/
theorem raised_queueReport (s : State) (r : Report) :
    Raised s (s.queueReport r) (overflow s) := by
  unfold overflow
  rcases s.queueReport_cases r with ⟨h, e⟩ | ⟨h, hl, e⟩ | ⟨h, hl, e⟩ <;> rw [e]
  · rw [onlyIf_false (fun g => Bool.false_ne_true (h.symm.trans g.1))]; exact Raised.refl s
  · rw [onlyIf_false (fun g => Nat.not_lt.2 g.2 hl)]; exact Raised.refl s
  · rw [onlyIf_true ⟨h, hl⟩]; exact (Raised.refl _).raise

/-- The occurrence that recall entry is (R156). -/
theorem raised_recallEntry (s : State) : Raised s s.recallEntry [.recallEntered] := by
  refine ((Raised.refl (s.raise .recallEntered)).of_end ?_ ?_).raise
  · unfold State.recallEntry; dsimp only; rw [State.recallEntry_fold_frame]; rfl
  · unfold State.recallEntry; dsimp only; rw [State.recallEntry_fold_frame]; rfl

/-- Forming the building mode anew raises the event of its change alone (R156, R158). -/
theorem raised_formMode (s : State) : Raised s s.formMode (modeEvents s s.formMode) := by
  rcases s.formMode_cases with ⟨h, e⟩ | ⟨_, h, e⟩ | ⟨_, h, e⟩
  · rw [e, modeEvents_of_eq rfl]; exact Raised.refl s
  · have hm : s.formMode.mode = .recall := by rw [e, State.recallEntry_frame]
    rw [show modeEvents s s.formMode = [.recallEntered] by simp [modeEvents, onlyIf, h, hm], e]
    exact (raised_recallEntry { s with mode := .recall }).of_start (fun _ => rfl) rfl rfl
  · have hm : s.formMode.mode = .normal := by rw [e]; rfl
    rw [show modeEvents s s.formMode = [.recallLeft] by simp [modeEvents, onlyIf, h, hm], e]
    exact ((Raised.refl _).raise (s := { s with mode := .normal })).of_start (fun _ => rfl) rfl rfl

theorem Working.operating {s : State} (h : Working s) : s.operating = true := by
  simp [State.operating, h.1, h.2]

theorem Asked.op {s : State} {p : List Byte} {rest : List (List Byte)} {op need : Nat}
    (h : Asked s p rest op need) : requestOp p = op := h.2.2.2.2.1

theorem Asked.length {s : State} {p : List Byte} {rest : List (List Byte)} {op need : Nat}
    (h : Asked s p rest op need) : need ≤ p.length := h.2.2.2.2.2.2

/-- The Agent takes an asked request that is the command's. -/
theorem Asked.taken {s : State} {p : List Byte} {rest : List (List Byte)} {op need : Nat}
    (h : Asked s p rest op need) {mine : List Byte → Bool} (hm : mine p = true) :
    s.taken mine p rest := by
  obtain ⟨hw, hr, hl, hs, -, -, -⟩ := h
  exact ⟨hr, by simp [State.agentFree, hw.operating, Config.responseRoom, hl, hs], hm⟩

/-- What serving an asked request leaves: the handling's state with the response placed. -/
theorem Asked.serve {s : State} {p : List Byte} {rest : List (List Byte)} {op need : Nat}
    (h : Asked s p rest op need) {mine : List Byte → Bool} (hm : mine p = true)
    (handle : List Byte → State → Reply) :
    s.serve mine handle =
      { (handle p { s with requests := rest }).state with
        responses := (handle p { s with requests := rest }).state.responses ++
          [⟨p.getD 0 0, p.getD 1 0, (handle p { s with requests := rest }).code,
            (handle p { s with requests := rest }).data⟩] } := by
  have h6 : 2 ≤ p.length := by
    have h1 := h.2.2.2.2.2.1
    have h2 := h.length
    omega
  rw [s.serve_taken mine handle (h.taken hm), State.respond_echo _ _ _ _ h6]

theorem Commanded.asked {s : State} {p : List Byte} {rest : List (List Byte)} {op need : Nat}
    (h : Commanded s p rest op need) : Asked s p rest op need := h.1

/-- The site code of a command matches, whatever the requests that wait. -/
theorem Commanded.code {s : State} {p : List Byte} {rest : List (List Byte)} {op need : Nat}
    (h : Commanded s p rest op need) : requestCode p = s.siteCode.code := h.2

/-- A command that passes its two checks has its effect. -/
theorem Commanded.checkCommand {s : State} {p : List Byte} {rest : List (List Byte)}
    {op need : Nat} (h : Commanded s p rest op need) (k : Reply) :
    ({ s with requests := rest } : State).checkCommand p need k = k :=
  State.checkCommand_pass _ p need k h.asked.length h.code

theorem Changing.commanded {s : State} {p : List Byte} {rest : List (List Byte)}
    {op table need : Nat} (h : Changing s p rest op table need) : Commanded s p rest op need := h.1

/-- A WRITE or ERASE that passes its three checks reaches the table's own. -/
theorem Changing.checkChange {s : State} {p : List Byte} {rest : List (List Byte)}
    {op table need : Nat} (h : Changing s p rest op table need) (k : Reply) :
    ({ s with requests := rest } : State).checkChange p need k = k :=
  State.checkChange_pass _ p need k h.1.asked.length h.1.code h.2.2

theorem Changing.isTableOp {s : State} {p : List Byte} {rest : List (List Byte)}
    {op table need : Nat} (h : Changing s p rest op table need) : isTableOp op table p = true := by
  have h1 : requestOp p = op := h.1.asked.op
  have h2 : requestTable p = table := h.2.1
  simp [Sys2Proof.Machine.isTableOp, h1, h2]

theorem Asked.isOp {s : State} {p : List Byte} {rest : List (List Byte)} {op need : Nat}
    (h : Asked s p rest op need) : isOp op p = true := by
  have h1 : requestOp p = op := h.op
  simp [Sys2Proof.Machine.isOp, h1]

end Sys2Proof.Safety
end

