-- ==== Sys2Proof/WellFormed.lean ====
section
/-! DEFINITION. Which commands can occur: their operands name something the part has. -/

namespace Sys2Proof

/-- A reception begins with a character, so it holds at least one byte (R161). -/
def Reception.wellFormed (r : Reception) : Bool := 1 ≤ r.bytes.length

/-- The operands of a command name a terminal 1..64 (04), a group 1..6 (R5), a tag 1..4,095 (R128),
a trip number 1..65,535 (R109) or an alarm line 0..7 (R144). -/
def Instr.wellFormed : Instr → Bool
  | .pollReply r => r.wellFormed
  | .presentReply r => r.wellFormed
  | .decayExpiry t => 1 ≤ t && t ≤ 64
  | .holdExpiry t => 1 ≤ t && t ≤ 64
  | .receptionEnd _ r => r.wellFormed
  | .receiveMreq r => r.wellFormed
  | .receiveGToTRelay r => r.wellFormed
  | .receiveAssign r => r.wellFormed
  | .receiveDecline r => r.wellFormed
  | .answerTimeout g t => 1 ≤ g && g ≤ 6 && 1 ≤ t && t ≤ 4095
  | .repeatGuardExpiry n => 1 ≤ n && n ≤ 65535
  | .transferWindowExpiry n => 1 ≤ n && n ≤ 65535
  | .alarmInputChange k _ => k ≤ 7
  | .debounceExpiry k => k ≤ 7
  | .fullReset | .fullResetEnd | .loadingEnd | .clockAdvance | .sendPoll | .replyTimeExpiry
  | .sendAnswer | .sendGToTRelay | .sendCancel | .sendCall | .sendMrsp | .sendNotice
  | .sendTToGRelay | .sendReport | .saveMarkCleared _ | .saveSectorsErased _
  | .saveTablesProgrammed _ | .saveMarkWritten _ | .read | .find | .readStatus
  | .writeCredential | .eraseCredential | .writeProfile | .eraseProfile | .writeTenant
  | .eraseTenant | .writeHoliday | .eraseHoliday | .writeLanding | .eraseLanding | .writeGroup
  | .eraseGroup | .writeSkyLobby | .eraseSkyLobby | .writeTerminal | .eraseTerminal
  | .writeFormat | .eraseFormat | .writeFacilityRange | .eraseFacilityRange
  | .writeAlarmLine | .eraseAlarmLine | .writeSettings | .switchBanks | .copyActiveToStandby
  | .saveImage | .restart | .restartMade | .startService | .setTime | .setSiteCode
  | .releaseTerminal | .ackLine | .lockZones | .unlockZones | .holdGroup | .resumeGroup
  | .enterRecall | .leaveRecall | .clearEvents | .receiverIdle _ | .receptionStart _
  | .undefinedOperation => true

end Sys2Proof
end

