-- ==== Sys2Proof/Tests/Slice0.lean ====
section
/-! SUPPORT. Tests of the model: ill-formed commands refused, values that the spec's examples and formulas give, one step each, and a state that meets the hypotheses of each statement. Expected values are worked out from the rules named. -/

namespace Sys2Proof.Tests

-- Each proof at once, one after another: proofs in parallel take a thread's stack each.
set_option Elab.async false

open Sys2Proof.Machine Sys2Proof.Safety

/-! ## Ill-formed commands -/

theorem test_wellFormed_reception_empty : (Instr.pollReply ⟨[], true⟩).wellFormed = false := by decide
theorem test_wellFormed_receptionEnd_empty :
    (Instr.receptionEnd .group ⟨[], false⟩).wellFormed = false := by decide
theorem test_wellFormed_decay_station : (Instr.decayExpiry 65).wellFormed = false := by decide
theorem test_wellFormed_hold_station : (Instr.holdExpiry 0).wellFormed = false := by decide
theorem test_wellFormed_timeout_group : (Instr.answerTimeout 7 1).wellFormed = false := by decide
theorem test_wellFormed_timeout_tag : (Instr.answerTimeout 1 4096).wellFormed = false := by decide
theorem test_wellFormed_guard_trip : (Instr.repeatGuardExpiry 0).wellFormed = false := by decide
theorem test_wellFormed_window_trip : (Instr.transferWindowExpiry 65536).wellFormed = false := by
  decide
theorem test_wellFormed_input_line : (Instr.alarmInputChange 8 .low).wellFormed = false := by decide
theorem test_wellFormed_debounce_line : (Instr.debounceExpiry 8).wellFormed = false := by decide
theorem test_wellFormed_good :
    [Instr.presentReply ⟨[0], true⟩, .answerTimeout 6 4095, .debounceExpiry 7,
      .repeatGuardExpiry 65535, .sendPoll].all Instr.wellFormed = true := by decide

/-! ## States and outcomes for the tests -/

/-- The state a command leaves. -/
def after (c : Instr) (s : State) : State :=
  match exec c s with
  | .next t => t
  | .fault _ | .refused _ => s

/-- A RUNNING part with both receivers IDLE. -/
def works : State :=
  { State.reset with partState := .running, tReceiver := .idle, gReceiver := .idle }

/-- A payload of the given byte values. -/
def payload (ns : List Nat) : List Byte := ns.map byteOf

/-- A request: number 7, the operation, site code 0, then the rest. -/
def request (op : Nat) (ns : List Nat) : List Byte := payload ([7, op, 0, 0, 0, 0] ++ ns)

/-- The working part with one request waiting. -/
def asked (op : Nat) (ns : List Nat) : State := { works with requests := [request op ns] }

/-- A request that names a table and an index. -/
def tableRequest (op table index : Nat) (ns : List Nat) : List Byte :=
  request op ([table, 0, index / 256, index % 256] ++ ns)

/-- The working part with one request waiting that names a table and an index. -/
def tableAsked (op table index : Nat) (ns : List Nat) : State :=
  { works with requests := [tableRequest op table index ns] }

/-- The code and the data of the response that a command gives to a request. -/
def reply (c : Instr) (s : State) : Option (Code × List Nat) :=
  (after c s).responses.getLast?.map (fun r => (r.code, r.data.map BitVec.toNat))

/-- A good frame, received. -/
def heard (destination source kind : Nat) (ns : List Nat) : Reception :=
  ⟨composeFrame destination source kind (payload ns), true⟩

/-- The 16 bytes of the landing set of landings 0 to 15 given by two bytes. -/
def firstLandings (a b : Nat) : List Nat := [a, b] ++ List.replicate 14 0

/-! ## Operands: the check, the bucket, the reader word, records -/

/-- The check of the characters 1 to 9 is 10,673, the published value of this check (R163). -/
theorem test_check_of_digits :
    checkOf (payload [49, 50, 51, 52, 53, 54, 55, 56, 57]) = 10673#16 := by decide +kernel

theorem test_bucket_examples : bucketOf ⟨0, 3812⟩ = 3812 ∧ bucketOf ⟨1, 4096⟩ = 8 ∧
    bucketOf ⟨65535, 4294967295⟩ = 4087 := by decide

/-- A 26-bit SPLIT word of the reset format: facility 5, card 6, its parity bits 1 and 0 . -/
theorem test_reader_standard_word : decodeReader {} 26
    (BitVec.ofNat 64 ((0 * 2 ^ 25 + 5 * 2 ^ 17 + 6 * 2 + 1) * 2 ^ 38)) = some ⟨5, 6⟩ := by
  decide +kernel

theorem test_reader_parity_fails : decodeReader {} 26
    (BitVec.ofNat 64 ((1 * 2 ^ 25 + 5 * 2 ^ 17 + 6 * 2 + 1) * 2 ^ 38)) = none := by decide +kernel

theorem test_reader_count_differs : decodeReader {} 27 0 = none := by decide

theorem test_frame_of_another_length_is_bad :
    judge ⟨(composeFrame 90 100 32 (payload [1, 2])).dropLast, true⟩ = none := by decide +kernel

theorem test_frame_without_stop_bit_is_bad : judge ⟨composeFrame 90 100 32 [], false⟩ = none := by
  decide

theorem test_frame_good : judge (heard 90 11 17 [0, 1, 3]) =
    some ⟨90, 11, 17, payload [0, 1, 3]⟩ := by decide +kernel

/-! ## Resets, LOADING, the clock -/

theorem test_fullReset_cuts_the_line :
    (after .fullReset { works with tLine := some [0] }).tLine = none := by decide

theorem test_fullResetEnd_locks_the_code :
    (after .fullResetEnd { works with resetHeld := true, siteCode := ⟨5, .set⟩ }).siteCode =
      ⟨5, .locked⟩ := by decide

theorem test_restartMade_keeps_the_clock :
    (after .restartMade { works with restart := .transmitted, clock := ⟨9, 8, 7, true⟩ }).clock =
      ⟨9, 8, 7, true⟩ := by decide

theorem test_loadingEnd_invalid_image : (after .loadingEnd State.reset).partState = .unconfigured ∧
    (after .loadingEnd State.reset).event .clockUnset = ⟨true, 1⟩ := by decide +kernel

/-- A line of debounce code 0 that is active at the end of LOADING calls for recall at once. -/
theorem test_loadingEnd_active_recall_line :
    let s := after .loadingEnd { State.reset with image := some ⟨3, { ({} : Tables) with
      alarmLines := [(7, ⟨false, false, 0, false, .recall, 0⟩)] }⟩ }
    (s.line 7).status = .active ∧ s.mode = .recall ∧
    s.notices = [⟨.clockUnset, 1⟩, ⟨.alarmRaised, 1⟩, ⟨.recallEntered, 1⟩] := by decide +kernel

/-- An occurrence of an enabled kind whose status is clear queues a notice, while the FIFO holds fewer than 8. -/
theorem test_raise_queues_a_notice :
    (works.raise .saveDone).notices = [⟨.saveDone, 1⟩] ∧
    ((works.raise .saveDone).raise .saveDone).notices = [⟨.saveDone, 1⟩] ∧
    (({ works with notices := List.replicate 8 ⟨.authFailed, 1⟩ } : State).raise
      .saveDone).notices.length = 8 := by decide +kernel

theorem test_loadingEnd_starts_debounce :
    ((after .loadingEnd State.reset).line 7).timer = some 20 := by decide +kernel

theorem test_clock_rolls_into_the_next_day :
    (after .clockAdvance { works with clock := ⟨20457, 1439, 59, true⟩ }).clock =
      ⟨20458, 0, 0, true⟩ := by decide

theorem test_clock_stops_at_the_last_day :
    (after .clockAdvance { works with clock := ⟨65535, 1439, 59, true⟩ }).clock =
      ⟨65535, 0, 0, true⟩ := by decide

theorem test_setTime_minute_1440_refused :
    reply .setTime (asked 21 [0, 1, 5, 160, 0]) = some (.badField, []) := by decide +kernel

theorem test_setTime_sets :
    (after .setTime (asked 21 [79, 233, 2, 88, 12])).clock = ⟨20457, 600, 12, true⟩ := by
  decide +kernel

/-! ## The Terminal Port -/

/-- A part whose terminal 5 is configured. -/
def withTerminal : State := { works with
  tables := { ({} : Tables) with terminals := [(5, ⟨true, 0, 0, .routed⟩)] } }

/-- Terminal 5 has been polled, and its reply is being received. -/
def replying : State := { withTerminal with
  exchange := some ⟨5, 20, true, false⟩, tReceiver := .receiving }

theorem test_sendPoll_polls_the_terminal :
    (after .sendPoll withTerminal).tLine = some (composeFrame 5 0 1 []) ∧
    (after .sendPoll withTerminal).roundPosition = 5 := by decide +kernel

theorem test_sendPoll_waits_for_answers : after .sendPoll
    { withTerminal with answers := [⟨5, .retry, none, none, none, none, false⟩] } =
    { withTerminal with answers := [⟨5, .retry, none, none, none, none, false⟩] } := by
  decide +kernel

theorem test_third_miss_makes_absent :
    let s := after .replyTimeExpiry { withTerminal with
      exchange := some ⟨5, 20, false, false⟩, terminals := [(5, { misses := 2 })] }
    s.terminal 5 = { absent := true, misses := 3 } ∧ s.event .terminalAbsent = ⟨true, 1⟩ := by
  decide +kernel

theorem test_pollReply_nil_makes_present :
    let s := after (.pollReply (heard 0 5 2 [])) { replying with
      terminals := [(5, { absent := true, misses := 3 })] }
    s.terminal 5 = {} ∧ s.event .terminalPresent = ⟨true, 1⟩ := by decide +kernel

theorem test_pollReply_relays :
    (after (.pollReply (heard 0 5 77 [1])) { replying with
      tables := { replying.tables with settings := { tToG := [77#8] } } }).toNetwork =
      [composeFrame 0 5 77 (payload [1])] := by decide +kernel

/-- A PRESENT payload of a 26-bit word of facility 5 and card 6, and a request byte. -/
def present (want : Nat) : List Nat := [26, 2, 128, 3, 64, 0, 0, 0, 0, want]

theorem test_present_of_9_bytes_is_discarded :
    (after (.presentReply (heard 0 5 3 ((present 0).dropLast))) replying).answers = [] := by
  decide +kernel

theorem test_present_unknown_badge :
    (after (.presentReply (heard 0 5 3 (present 0))) replying).answers =
      [⟨5, .denied, some .unknownBadge, none, none, none, false⟩] ∧
    ((after (.presentReply (heard 0 5 3 (present 0))) replying).terminal 5).tally = 1 := by
  decide +kernel

theorem test_decayExpiry_last :
    (after (.decayExpiry 5) { works with
      terminals := [(5, { tally := 1, decay := some 700 })] }).terminal 5 = {} := by decide +kernel

theorem test_decayExpiry_restarts :
    ((after (.decayExpiry 5) { works with
      terminals := [(5, { tally := 3, decay := some 700 })] }).terminal 5).decay =
      some 10700 := by decide +kernel

theorem test_holdExpiry_keeps_the_count :
    (after (.holdExpiry 5) { works with
      terminals := [(5, { service := .held 30000, holds := 2 })] }).terminal 5 =
      { holds := 2 } := by decide +kernel

theorem test_sendAnswer_carries_the_overrun :
    (after .sendAnswer { withTerminal with
      answers := [⟨5, .admitted, none, some 31, some 2, none, false⟩]
      terminals := [(5, { overrun := true })] }).tLine =
      some (composeFrame 5 0 4 (payload [1, 0, 31, 2, 255, 64])) := by decide +kernel

theorem test_sendAnswer_discards_for_absent :
    let s := after .sendAnswer { withTerminal with
      answers := [⟨5, .admitted, none, some 31, some 2, none, false⟩]
      terminals := [(5, { absent := true, misses := 3 })] }
    s.tLine = none ∧ s.answers = [] := by decide +kernel

theorem test_sendGToTRelay_unchanged :
    (after .sendGToTRelay { withTerminal with
      toTerminals := [composeFrame 5 120 80 []] }).tLine = some (composeFrame 5 120 80 []) := by
  decide +kernel

theorem test_receiverIdle : (after (.receiverIdle .group) { works with gReceiver := .sync }).gReceiver =
    .idle := by decide

theorem test_receptionStart_within_a_poll :
    (after (.receptionStart .terminal) { withTerminal with
      exchange := some ⟨5, 20, false, false⟩ }).exchange = some ⟨5, 20, true, false⟩ := by decide

theorem test_receptionEnd_counts_a_link_error :
    (after (.receptionEnd .group ⟨[1, 2], true⟩) { works with gReceiver := .receiving }).event
      .linkErrors = ⟨true, 1⟩ := by decide +kernel

theorem test_receptionEnd_bad_reply_is_a_miss :
    ((after (.receptionEnd .terminal ⟨[1], true⟩) replying).terminal 5).misses = 1 := by
  decide +kernel

/-! ## The Group Port -/

/-- Group 1 at station 11 serves landings 0 to 15; a frame is being received. -/
def withGroup : State := { works with
  gReceiver := .receiving
  tables := { withTerminal.tables with
    groups := [(1, ⟨some 11, BitVec.ofNat 128 ((2 ^ 16 - 1) * 2 ^ 112), 4, 8⟩)] } }

/-- A trip of one leg whose terminal 5 awaits it. -/
def trip : Trip := ⟨9, ⟨5, 6⟩, 5, 0, 12, 1, none, 1, 1, 3, none, .called, ⟨0, 0, 0⟩, none⟩

/-- The call of that trip. -/
def call : Call := ⟨1, 9, 3, 0, 12, false, .oneOfOne⟩

/-- The trip's call is outstanding. -/
def calling : State := { withGroup with
  trips := [trip], terminals := [(5, { service := .awaiting 9, holds := 1 })]
  groups := [(1, { streak := 2, outstanding := [⟨call, 2000⟩] })] }

/-- The trip's call is queued. -/
def queued : State := { calling with
  trips := [{ trip with state := .queued }], groups := [(1, { queue := [call] })] }

theorem test_receiveMreq_joins_the_fifo :
    (after (.receiveMreq (heard 90 100 32 [1, 5])) withGroup).requests = [payload [1, 5]] := by
  decide +kernel

theorem test_receiveMreq_overrun :
    let s := after (.receiveMreq (heard 90 100 32 [1, 5]))
      { withGroup with requests := List.replicate 8 [] }
    s.event .portOverrun = ⟨true, 1⟩ ∧ s.requests.length = 8 := by decide +kernel

theorem test_mreq_of_another_station_is_discarded :
    (after (.receiveMreq (heard 90 101 32 [1, 5])) withGroup).requests = [] := by decide +kernel

theorem test_receiveGToTRelay_unwanted :
    (after (.receiveGToTRelay (heard 5 120 80 [])) withGroup).toTerminals = [] := by decide +kernel

theorem test_receiveAssign_admits :
    let s := after (.receiveAssign (heard 90 11 17 [0, 3, 4])) calling
    s.answers = [⟨5, .admitted, none, some 12, some 4, none, false⟩] ∧ s.terminal 5 = {} ∧
    s.trips = [{ trip with state := .assigned, car := some 4, expiry := some 10000 }] := by
  decide +kernel

theorem test_receiveAssign_unknown_is_cancelled :
    (after (.receiveAssign (heard 90 11 17 [0, 4, 4])) calling).cancels = [⟨1, 4⟩] := by
  decide +kernel

theorem test_receiveDecline_full :
    (after (.receiveDecline (heard 90 11 18 [0, 3, 1])) calling).answers =
      [⟨5, .retry, some .groupBusy, some 12, none, none, false⟩] := by decide +kernel

theorem test_answerTimeout_silences_the_group :
    let s := after (.answerTimeout 1 3) calling
    s.group 1 = { service := .silent, streak := 3 } ∧ s.cancels = [⟨1, 3⟩] ∧ s.trips = [] ∧
    s.event .groupSilent = ⟨true, 1⟩ := by decide +kernel

theorem test_repeatGuardExpiry_removes :
    (after (.repeatGuardExpiry 9) { works with
      trips := [{ trip with state := .assigned, expiry := some 10000 }] }).trips = [] := by
  decide +kernel

theorem test_transferWindowExpiry_of_an_assigned_record_is_none :
    (after (.transferWindowExpiry 9) { works with
      trips := [{ trip with state := .assigned, expiry := some 10000 }] }).trips.length = 1 := by
  decide +kernel

theorem test_sendCall_frame :
    let s := after .sendCall queued
    s.gLine = some (composeFrame 11 90 16 (payload [0, 3, 0, 12, 0, 1])) ∧ s.trips = [trip] ∧
    (s.group 1).outstanding = [⟨call, 2000⟩] ∧ s.lastServed = 1 := by decide +kernel

theorem test_sendCall_waits_for_cancels :
    (after .sendCall { queued with cancels := [⟨1, 8⟩] }).gLine = none := by decide +kernel

theorem test_sendCancel_frame :
    (after .sendCancel { withGroup with cancels := [⟨1, 258⟩] }).gLine =
      some (composeFrame 11 90 19 (payload [1, 2])) := by decide +kernel

theorem test_sendCancel_without_station :
    let s := after .sendCancel { withGroup with cancels := [⟨2, 258⟩] }
    s.gLine = none ∧ s.cancels = [] := by decide +kernel

theorem test_sendMrsp_lets_the_restart_be_made :
    (after .sendMrsp { works with
      restart := .answered, responses := [⟨7, 19, .ok, []⟩] }).restart = .transmitted := by
  decide +kernel

theorem test_sendNotice_frame :
    (after .sendNotice { works with notices := [⟨.clockUnset, 1⟩] }).gLine =
      some (composeFrame 100 90 34 (payload [19, 1])) := by decide +kernel

theorem test_sendTToGRelay_unchanged :
    (after .sendTToGRelay { works with toNetwork := [composeFrame 0 5 77 []] }).gLine =
      some (composeFrame 0 5 77 []) := by decide +kernel

theorem test_sendReport_waits_for_notices :
    (after .sendReport { works with
      notices := [⟨.clockUnset, 1⟩]
      reports := [⟨⟨0, 0, 0⟩, false, 5, none, 0, none, .denied, none, none⟩] }).reports.length =
      1 := by decide +kernel

/-! ## Alarm lines -/

/-- Line 2 is unmasked, LEVEL, active low, with action RECALL. -/
def withLine : State := { queued with
  tables := { queued.tables with alarmLines := [(2, ⟨true, false, 1, false, .recall, 0⟩)] }
  lines := [(2, ⟨some .high, none, .normal⟩)] }

theorem test_alarmInputChange_starts_the_timer :
    ((after (.alarmInputChange 2 .low) withLine).line 2).timer = some 20 := by decide +kernel

theorem test_debounceExpiry_makes_recall :
    let s := after (.debounceExpiry 2) { withLine with
      inputs := [(2, .low)], lines := [(2, ⟨some .high, some 20, .normal⟩)] }
    s.mode = .recall ∧ s.trips = [] ∧ s.group 1 = {} ∧
    s.answers = [⟨5, .denied, some .serviceSuspended, some 12, none, none, false⟩] := by
  decide +kernel

/-! ## The image store -/

theorem test_saveMarkCleared :
    (after (.saveMarkCleared true) { works with
      image := some ⟨3, {}⟩, saving := some ⟨.clearMark, {}⟩ }).image = none := by decide +kernel

theorem test_saveSectorsErased_fails :
    let s := after (.saveSectorsErased false) { works with saving := some ⟨.eraseSectors, {}⟩ }
    s.saving = none ∧ s.event .saveFailed = ⟨true, 1⟩ := by decide +kernel

theorem test_saveTablesProgrammed :
    (after (.saveTablesProgrammed true) { works with
      saving := some ⟨.programTables, {}⟩ }).saving = some ⟨.writeMark, {}⟩ := by decide +kernel

theorem test_saveMarkWritten_wraps_the_sequence :
    (after (.saveMarkWritten true) { works with
      imageSequence := 65535, saving := some ⟨.writeMark, {}⟩ }).image = some ⟨0, {}⟩ := by
  decide +kernel

/-! ## Requests -/

theorem test_read_landing_of_bank_B :
    reply .read { works with
      requests := [request 1 [5, 1, 0, 9]]
      tables := { ({} : Tables) with bankB := { landings := [(9, ⟨4, true, false⟩)] } } } =
      some (.ok, [4, 1, 0]) := by decide +kernel

theorem test_read_undefined_bank : reply .read (asked 1 [5, 2, 0, 9]) = some (.badField, []) := by
  decide +kernel

theorem test_find_unknown :
    reply .find (asked 2 [1, 0, 0, 0, 0, 5, 0, 0, 0, 6]) = some (.notFound, []) := by decide +kernel

theorem test_readStatus_length :
    (reply .readStatus (asked 5 [])).map (fun r => r.2.length) = some 42 := by decide +kernel

/-- A STAFF badge entry of facility 5, card 6, profile 17, start day 20,000, default landing 31. -/
def badge : List Nat := [0, 5, 0, 0, 0, 6, 0, 17, 0, 78, 32, 0, 0, 0, 31, 16]

theorem test_writeCredential_stores_in_the_lowest_way :
    let s := after .writeCredential (tableAsked 3 1 0 badge)
    s.way 84 = some ⟨⟨5, 6⟩, .active, .staff, 17, none, 20000, none, none, some 31, false⟩ ∧
    s.population = 1 := by decide +kernel

/-- Without a default landing the landing byte of a badge entry is 255. -/
theorem test_read_absent_default_landing :
    (reply .read { works with
      requests := [tableRequest 1 1 84 []]
      tables := { ({} : Tables) with credentials := [(84, some
        ⟨⟨5, 6⟩, .active, .staff, 17, none, 20000, none, none, none, false⟩)] } }).map
      (fun r => (r.1, r.2.getD 14 0)) = some (.ok, 255) := by decide +kernel

theorem test_writeCredential_visitor_without_trips :
    reply .writeCredential (tableAsked 3 1 0
      [0, 5, 0, 0, 0, 6, 64, 17, 0, 78, 32, 0, 0, 0, 31, 48]) = some (.badField, []) := by
  decide +kernel

theorem test_eraseCredential_unknown :
    reply .eraseCredential (tableAsked 4 1 0 [0, 5, 0, 0, 0, 6]) = some (.notFound, []) := by
  decide +kernel

theorem test_writeProfile_clamps :
    let s := after .writeProfile (tableAsked 3 2 7 ([248, 1, 164, 7, 208] ++ firstLandings 0 1))
    (s.tables.bankB.profiles.get none 7).map (fun b => (b.start, b.length)) = some (420, 1440) ∧
    s.tables.bankA = {} ∧ s.responses.map (fun r => r.code) = [.okClamped] := by decide +kernel

theorem test_eraseProfile_index_1024 :
    reply .eraseProfile (asked 4 [2, 0, 4, 0]) = some (.badIndex, []) := by decide +kernel

theorem test_writeTenant_state_2_refused :
    reply .writeTenant (tableAsked 3 3 1 (firstLandings 0 1 ++ [2])) = some (.badField, []) := by
  decide +kernel

theorem test_eraseTenant_last : reply .eraseTenant (tableAsked 4 3 63 []) = some (.ok, []) := by
  decide +kernel

theorem test_writeHoliday : ((after .writeHoliday (tableAsked 3 4 31 [79, 237])).tables.bankB).holidays =
    [(31, some 20461)] := by decide +kernel

theorem test_eraseHoliday_index : reply .eraseHoliday (tableAsked 4 4 32 []) =
    some (.badIndex, []) := by decide +kernel

theorem test_writeLanding : ((after .writeLanding (tableAsked 3 5 127 [15, 0, 1])).tables.bankB).landings =
    [(127, ⟨15, false, true⟩)] := by decide +kernel

theorem test_eraseLanding_unlists : (after .eraseLanding
    { (tableAsked 4 5 9 []) with
      tables := { ({} : Tables) with bankB := { landings := [(9, ⟨4, true, false⟩)] } } }).tables =
    {} := by decide +kernel

theorem test_writeGroup_clamps : reply .writeGroup (tableAsked 3 6 1 ([11] ++ firstLandings 255 255 ++
    [17, 0])) = some (.okClamped, [11] ++ firstLandings 255 255 ++ [16, 1]) := by decide +kernel

theorem test_eraseGroup_busy : reply .eraseGroup { queued with
    requests := [request 4 [6, 0, 0, 1]] } = some (.busy, []) := by decide +kernel

theorem test_writeSkyLobby : reply .writeSkyLobby (tableAsked 3 7 3 [127]) = some (.ok, [127]) := by
  decide +kernel

theorem test_eraseSkyLobby_index : reply .eraseSkyLobby (tableAsked 4 7 4 []) =
    some (.badIndex, []) := by decide +kernel

theorem test_writeTerminal_binding_7_refused :
    reply .writeTerminal (tableAsked 3 8 64 [0, 0, 7]) = some (.badField, []) := by decide +kernel

theorem test_eraseTerminal_awaiting : reply .eraseTerminal { queued with
    requests := [request 4 [8, 0, 0, 5]] } = some (.busy, []) := by decide +kernel

theorem test_writeFormat_on_a_parity_bit :
    reply .writeFormat (tableAsked 3 9 1 [26, 0, 8, 9, 16, 1]) = some (.badField, []) := by
  decide +kernel

theorem test_eraseFormat : reply .eraseFormat (tableAsked 4 9 7 []) = some (.ok, []) := by
  decide +kernel

theorem test_writeFacilityRange_whole : reply .writeFacilityRange
    (tableAsked 3 10 0 [0, 0, 1, 0, 0]) = some (.ok, [0, 0, 1, 0, 0]) := by decide +kernel

theorem test_eraseFacilityRange_index : reply .eraseFacilityRange (tableAsked 4 10 4 []) =
    some (.badIndex, []) := by decide +kernel

theorem test_writeAlarmLine_clamps_debounce :
    reply .writeAlarmLine (tableAsked 3 11 2 [1, 0, 9, 0, 2, 0, 0]) =
      some (.okClamped, [1, 0, 3, 0, 2, 0, 0]) := by decide +kernel

theorem test_eraseAlarmLine_leaves_recall :
    let s := after .eraseAlarmLine { withLine with
      requests := [request 4 [11, 0, 0, 2]], mode := .recall
      lines := [(2, ⟨some .low, none, .active⟩)] }
    s.mode = .normal ∧ s.event .recallLeft = ⟨true, 1⟩ := by decide +kernel

theorem test_writeSettings_landing_count_clamps :
    reply .writeSettings (tableAsked 3 12 2 [1]) = some (.okClamped, [2]) := by decide +kernel

theorem test_writeSettings_handled_kind_refused :
    reply .writeSettings (tableAsked 3 12 14 [1, 32]) = some (.badField, []) := by decide +kernel

theorem test_switchBanks : (after .switchBanks (asked 16 [])).activeBank = .b := by decide +kernel

theorem test_copyActiveToStandby : (after .copyActiveToStandby { asked 17 [] with
    tables := { ({} : Tables) with bankA := { holidays := [(0, some 1)] } } }).tables.bankB.holidays =
    [(0, some 1)] := by decide +kernel

theorem test_saveImage_captures_by_role : (after .saveImage { asked 18 [] with
    activeBank := .b
    tables := { ({} : Tables) with bankB := { holidays := [(0, some 1)] } } }).saving =
    some ⟨.clearMark, { ({} : Tables) with bankA := { holidays := [(0, some 1)] } }⟩ := by
  decide +kernel

theorem test_restart : (after .restart (asked 19 [])).restart = .answered := by decide +kernel

theorem test_startService : (after .startService { asked 20 [] with
    partState := .unconfigured }).partState = .running := by decide +kernel

theorem test_setSiteCode_locked : reply .setSiteCode { asked 22 [0, 0, 0, 9] with
    siteCode := ⟨0, .locked⟩ } = some (.locked, []) := by decide +kernel

theorem test_releaseTerminal : ((after .releaseTerminal { asked 23 [5] with
    terminals := [(5, { service := .latched, holds := 3 })] }).terminal 5) = {} := by decide +kernel

theorem test_ackLine_still_active : reply .ackLine { asked 24 [2] with
    lines := [(2, ⟨some .low, none, .latched⟩)] } = some (.stillActive, []) := by decide +kernel

theorem test_lockZones : (after .lockZones { asked 25 [128, 1] with lockSet := 2 }).lockSet =
    0x8003#16 := by decide +kernel

theorem test_unlockZones : (after .unlockZones { asked 26 [128, 1] with lockSet := 3 }).lockSet =
    2#16 := by decide +kernel

theorem test_holdGroup_withdraws :
    let s := after .holdGroup { queued with requests := [request 27 [1]] }
    s.answers = [⟨5, .retry, some .noService, some 12, none, none, false⟩] ∧
    s.group 1 = { service := .held } ∧ s.cancels = [] := by decide +kernel

theorem test_resumeGroup_0 : reply .resumeGroup (asked 28 [0]) = some (.badIndex, []) := by
  decide +kernel

theorem test_enterRecall : (after .enterRecall { queued with requests := [request 29 []] }).trips =
    [] := by decide +kernel

theorem test_leaveRecall : (after .leaveRecall { asked 30 [] with
    mode := .recall, recallFlag := true }).event .recallLeft = ⟨true, 1⟩ := by decide +kernel

theorem test_clearEvents_kind_20_refused :
    reply .clearEvents (asked 31 [0, 0, 8]) = some (.badField, []) := by decide +kernel

theorem test_undefinedOperation_6 : reply .undefinedOperation (asked 6 []) =
    some (.badField, []) := by decide +kernel

theorem test_wrong_code_is_refused_first :
    reply .eraseGroup { tableAsked 4 6 9 [] with siteCode := ⟨1, .set⟩ } =
      some (.notAuthorized, []) := by decide +kernel

/-! ## States that meet the statements' hypotheses

Each theorem is named after the statement, and gives for each of its clauses a state and operands that meet
all its hypotheses, at the bounds of the values that a clause ranges over. -/

theorem witness_StepRunsTheFrontCommand :
    ({ works with pending := [.sendPoll, .fullReset] } : State).pending =
      .sendPoll :: [.fullReset] := rfl

theorem witness_NoCommandStopsThePart : State.reset.pending = [] ∧
    ({ works with resetHeld := true } : State).pending = [] := by decide

theorem witness_ResetsGiveTheResetValues :
    ({ works with resetHeld := true } : State).resetHeld = true ∧
    ({ works with restart := .transmitted } : State).resetHeld = false ∧
    ({ works with restart := .transmitted } : State).restart = .transmitted := by decide

/-- The part is LOADING, with the image given. -/
def loading (i : Option Image) : State := { State.reset with image := i }

/-- An image in which line 7 has debounce code 0. -/
def noDebounce : Image := ⟨3, { ({} : Tables) with alarmLines := [(7, { debounce := 0 })] }⟩

theorem witness_LoadingEndLoadsTheTables :
    (∀ i, (loading i).resetHeld = false ∧ (loading i).partState = .loading) ∧
    (loading (some noDebounce)).image = some noDebounce ∧ (loading none).image = none ∧
    ((after .loadingEnd (loading (some noDebounce))).lineConfig 7).debounce = 0 ∧
    ModeFollows (loading none) ∧ ModeFollows (loading (some noDebounce)) ∧
    (∀ k ≤ 7, ((after .loadingEnd (loading none)).lineConfig k).debounce ≠ 0) :=
  ⟨fun _ => ⟨rfl, rfl⟩, rfl, rfl, by decide +kernel, by unfold ModeFollows; decide,
    by unfold ModeFollows; decide, by decide +kernel⟩

theorem witness_ClockAdvancesAndIsSet :
    (∀ n ∈ [58, 59], ClockInRange { works with clock := ⟨65535, 1439, n, true⟩ } ∧
      ({ works with clock := ⟨65535, 1439, n, true⟩ } : State).resetHeld = false) ∧
    (∀ t ∈ [[5, 159, 59], [5, 160, 0], [5, 159, 60]],
      Commanded (asked 21 ([255, 255] ++ t)) (request 21 ([255, 255] ++ t)) [] 21 11) := by
  unfold ClockInRange Commanded Asked Working
  decide +kernel

theorem withTerminal_polls (n u : Nat) (h : Polls withTerminal n u) : u = 5 := by
  obtain ⟨-, -, h, -⟩ := h
  by_contra hu
  simp [withTerminal, State.terminalConfig, Store.get, Ne.symm hu] at h

/-- The terminal of `withTerminal` is ABSENT, and the round of count 3 has passed it. -/
def allAbsent : State := { withTerminal with
  terminals := [(5, { absent := true, misses := 3 })], roundCount := 3, roundPosition := 5 }

theorem witness_SendPollTakesTheNextStation :
    (∀ s ∈ [withTerminal, { withTerminal with roundPosition := 5, roundCount := 7 }, allAbsent, works],
      TFree s ∧ s.answers = [] ∧ s.toTerminals = []) ∧
    (withTerminal.roundPosition < 5 ∧ Polls withTerminal withTerminal.roundCount 5 ∧
      ∀ v, withTerminal.roundPosition < v → v < 5 → ¬ Polls withTerminal withTerminal.roundCount v) ∧
    (∀ v, 5 < v → ¬ Polls withTerminal 7 v) ∧ Polls withTerminal ((7 + 1) % 8) 5 ∧
    (Polls allAbsent 0 5 ∧ ∀ v, 1 ≤ v → v ≤ 64 → (allAbsent.terminalConfig v).configured = true →
      (allAbsent.terminal v).absent = true) ∧
    (∀ u, ¬ Polls works 0 u) := by
  refine ⟨by unfold TFree Working; decide, ⟨by decide, by unfold Polls; decide, ?_⟩, ?_,
    by unfold Polls; decide, ⟨by unfold Polls; decide, by decide +kernel⟩, ?_⟩
  · intro v _ h5 h
    exact absurd (withTerminal_polls _ _ h) (by omega)
  · intro v h5 h
    exact absurd (withTerminal_polls _ _ h) (by omega)
  · rintro u ⟨-, -, h, -⟩
    simp [works, State.terminalConfig, State.reset] at h

theorem witness_UnansweredPollIsAMiss :
    ∀ v ∈ [({ misses := 1 } : TerminalState), { misses := 2 }, { absent := true, misses := 3 }],
      ∀ b, let s : State := { withTerminal with
        exchange := some ⟨5, 20, false, b⟩, terminals := [(5, v)] }
      Working s ∧ s.exchange = some ⟨5, 20, false, b⟩ ∧ s.terminal 5 = v := by
  unfold Working
  decide

theorem witness_PollReplyIsAGoodReply :
    ∀ b, (∀ n ∈ [15, 16], GoodReply { replying with
      exchange := some ⟨5, 20, true, b⟩, toNetwork := List.replicate n []
      tables := { replying.tables with settings := { tToG := [77#8] } } }
      (heard 0 5 77 [1]) ⟨5, 20, true, b⟩ ⟨0, 5, 77, [1]⟩) ∧
    GoodReply { replying with
      exchange := some ⟨5, 20, true, b⟩, terminals := [(5, { absent := true, misses := 3 })] }
      (heard 0 5 2 []) ⟨5, 20, true, b⟩ ⟨0, 5, 2, []⟩ := by
  unfold GoodReply Working
  decide +kernel

theorem witness_PresentReplyIsDiscardedOrDecided :
    (∀ b, ∀ v ∈ [TerminalService.idle, .awaiting 9],
      GoodReply { replying with
        exchange := some ⟨5, 20, true, b⟩, terminals := [(5, { service := v })] }
        (heard 0 5 3 (present 0)) ⟨5, 20, true, b⟩ ⟨0, 5, 3, payload (present 0)⟩) ∧
    GoodReply replying (heard 0 5 3 ((present 0).dropLast))
      ⟨5, 20, true, false⟩ ⟨0, 5, 3, payload ((present 0).dropLast)⟩ ∧
    (payload (present 0)).length = 10 := by
  unfold GoodReply Working
  decide +kernel

/-- The PRESENT of a station that is no longer configured is neither decided nor a good reply (R65). -/
theorem test_present_of_an_erased_station :
    let s := after (.presentReply (heard 0 5 3 (present 0))) { replying with
      exchange := some ⟨5, 20, true, true⟩, terminals := [(5, { misses := 2 })] }
    s.answers = [] ∧ s.reports = [] ∧ s.terminal 5 = { misses := 2 } ∧ s.exchange = none := by
  decide +kernel

theorem witness_TPortSendsTheHead :
    (∀ v ∈ [({} : TerminalState), { absent := true, misses := 3 }], TFree { withTerminal with
      terminals := [(5, v)], answers := [⟨5, .retry, none, none, none, none, false⟩] }) ∧
    TFree { withTerminal with toTerminals := [composeFrame 5 120 80 []] } := by
  unfold TFree Working
  decide

theorem witness_ReceptionsBeginAndEnd :
    (∀ r, Working { replying with tReceiver := r, gReceiver := r }) ∧
    judge ⟨[1], true⟩ = none ∧ judge (heard 3 4 40 []) = some ⟨3, 4, 40, []⟩ ∧
    (∀ f ∈ [(⟨0, 4, 40, []⟩ : Frame), ⟨65, 4, 40, []⟩, ⟨100, 4, 40, []⟩, ⟨3, 3, 40, []⟩,
        ⟨11, 4, 40, []⟩],
      judge (heard f.destination f.source f.kind []) = some f ∧
      NotAddressed { withGroup with gReceiver := .receiving } f) ∧
    judge (heard 0 6 2 []) = some ⟨0, 6, 2, []⟩ ∧ judge (heard 1 5 2 []) = some ⟨1, 5, 2, []⟩ ∧
    ForThePart { works with gReceiver := .receiving } (heard 90 11 19 []) ⟨90, 11, 19, []⟩ ∧
    ForThePart { works with gReceiver := .receiving } (heard 90 101 32 [1]) ⟨90, 101, 32, [1]⟩ ∧
    works.tables.settings.headEnd = 100 ∧
    (∀ v ∈ [({ misses := 1 } : TerminalState), { misses := 2 }, { absent := true, misses := 3 }],
      ∀ b, let s : State := { replying with
        exchange := some ⟨5, 20, true, b⟩, terminals := [(5, v)] }
      Working s ∧ s.tReceiver = .receiving ∧ s.exchange = some ⟨5, 20, true, b⟩ ∧
      s.terminal 5 = v) ∧
    (∀ x ∈ [none, some ⟨5, 20, false, false⟩], let s : State := { replying with exchange := x }
      Working s ∧ s.tReceiver = .receiving ∧ s.exchange.all (fun x => !x.begun) = true) := by
  refine ⟨fun r => ⟨rfl, ?_⟩, by decide, by decide +kernel, ?_, by decide +kernel, by decide +kernel,
    by unfold ForThePart Working; decide +kernel,
    by unfold ForThePart Working; decide +kernel, rfl, by unfold Working; decide,
    by unfold Working; decide⟩
  · simp [replying, withTerminal, works]
  · intro f hf
    simp only [List.mem_cons, List.not_mem_nil, or_false] at hf
    rcases hf with rfl | rfl | rfl | rfl | rfl <;> refine ⟨by decide +kernel, by decide, ?_⟩
    exacts [.inl rfl, .inr (.inl (by decide)), .inr (.inl (by decide)),
      .inr (.inr (.inr (.inl rfl))), .inr (.inr (.inr (.inr ⟨1, by decide, by decide, rfl⟩)))]

/-- A presentation at terminal 5 of a 26-bit word of facility 5 and card 6. -/
def presents (want : Byte) : Presentation :=
  ⟨5, 26, BitVec.ofNat 64 ((5 * 2 ^ 17 + 6 * 2 + 1) * 2 ^ 38), want⟩

theorem witness_StageZeroTurnsAway :
    let at5 := fun v : TerminalService => ({ works with terminals := [(5, { service := v })] } : State)
    ({ works with partState := .unconfigured } : State).partState ≠ .running ∧
    (works.partState = .running ∧ ({ works with mode := .recall } : State).mode = .recall) ∧
    ((at5 (.held 30000)).mode = .normal ∧
      ((at5 (.held 30000)).terminal (presents 0).terminal).service = .held 30000) ∧
    ((at5 .latched).mode = .normal ∧
      ((at5 .latched).terminal (presents 0).terminal).service = .latched) := by
  decide

/-- A SERVICE entry of facility 5, card 6 with default landing 12. -/
def entry : BadgeEntry := ⟨⟨5, 6⟩, .active, .service, 17, none, 0, none, none, some 12, false⟩

/-- Group 1 serves landings 0 to 15, group 2 landings 15 and 40; landing 15 is a sky lobby; the landings 12
and 40 are common; the Credential Table holds the entry. -/
def holding (e : BadgeEntry) : State := { withGroup with
  population := 1
  tables := { withGroup.tables with
    credentials := [(84, some e)], skyLobbies := [(3, some 15)]
    bankA := { landings := [(12, ⟨0, true, false⟩), (40, ⟨0, true, false⟩)] }
    groups := [(1, ⟨some 11, BitVec.ofNat 128 ((2 ^ 16 - 1) * 2 ^ 112), 4, 8⟩),
      (2, ⟨some 12, BitVec.ofNat 128 (2 ^ 112 + 2 ^ 87), 4, 8⟩)] } }

/-- A pass of the entry to landing 40 by way of landing 15. -/
def pass : Trip := { trip with
  final := 40, legs := 2, transfer := some 15, car := some 4, state := .awaitingTransfer
  expiry := some 180000 }

/-- That pass waits at landing 15, where terminal 5 now stands. -/
def passing : State := { holding entry with
  trips := [pass]
  tables := { (holding entry).tables with terminals := [(5, ⟨true, 15, 0, .routed⟩)] } }

/-- A VISITOR's entry without trips left. -/
def visitor : BadgeEntry := { entry with cls := .visitor, trips := some 0 }

/-- The visitor's pass waits at landing 15, where terminal 5 stands. -/
def visiting : State := { passing with
  tables := { passing.tables with credentials := [(84, some visitor)] } }

/-- At the transfer landing a request for the pass's final landing, or CONTINUE, continues it, and a request
for another landing does not. -/
theorem witness_visitorAtTheTransferLanding :
    visiting.partState = .running ∧ visiting.mode = .normal ∧ (visiting.terminal 5).service = .idle ∧
    visiting.lookup ⟨5, 6⟩ = some visitor ∧
    (∀ want ∈ [40#8, 129#8], Continues visiting (presents want) ⟨5, 6⟩ visitor pass ∧
      MayBeUsed visiting (presents want) ⟨5, 6⟩ visitor) ∧
    (∀ want ∈ [12#8, 128#8], (∀ t, ¬ Continues visiting (presents want) ⟨5, 6⟩ visitor t) ∧
      ¬ MayBeUsed visiting (presents want) ⟨5, 6⟩ visitor) := by
  have late : ∀ s : State, s.clock.isSet = false → ¬ Early s visitor ∧ ¬ Late s visitor :=
    fun s h => ⟨fun e => absurd e.1 (by simp [h]), fun e => absurd e.1 (by simp [h])⟩
  refine ⟨rfl, rfl, by decide +kernel, by decide +kernel, fun w hw => ?_, fun w hw => ?_⟩
  · have hc : Continues visiting (presents w) ⟨5, 6⟩ visitor pass := by
      revert w; unfold Continues; decide +kernel
    exact ⟨hc, rfl, by rintro ⟨n, h, -⟩; simp [visitor, entry] at h, (late _ rfl).1,
      (late _ rfl).2, .inr (.inr ⟨_, hc⟩)⟩
  · have hr : requested visiting (presents w) ⟨5, 6⟩ visitor = some 12 := by
      revert w; decide +kernel
    have hp : waitingPass visiting (presents w) ⟨5, 6⟩ = some pass := by revert w; decide +kernel
    have hn : ∀ t, ¬ Continues visiting (presents w) ⟨5, 6⟩ visitor t := by
      rintro t ⟨h, g⟩
      rw [hp] at h; rw [hr] at g
      cases h; exact absurd g (by decide)
    refine ⟨hn, ?_⟩
    rintro ⟨-, -, -, -, h | ⟨n, h⟩ | ⟨t, h⟩⟩
    · exact h rfl
    · simp [visitor] at h
    · exact hn t h

theorem test_visitor_without_trips_continues :
    (visiting.decision (presents 129)).ending = .carry pass 2 false ∧
    (visiting.decision (presents 12)).ending = .deny .noTripsLeft := by decide +kernel

theorem witness_StagesOneToFourInOrder :
    (∀ e ∈ [entry, { entry with state := .suspended }, { entry with state := .lost },
        { entry with tenant := some 63 }, { entry with startDay := 8 },
        { entry with endDay := some 6 }, { entry with cls := .visitor, trips := some 0 },
        { entry with cls := .visitor, trips := some 1 }],
      let s : State := { holding e with clock := ⟨7, 0, 0, true⟩ }
      s.partState = .running ∧ s.mode = .normal ∧ (s.terminal 5).service = .idle ∧
      let f := s.tables.formats.get {} (s.terminalConfig 5).format
      ¬ Unreadable f 26 (presents 0).bits ∧
      fieldOf (presents 0).bits f.facilityStart f.facilityLength = 5 ∧
      fieldOf (presents 0).bits f.cardStart f.cardLength = 6 ∧ s.lookup ⟨5, 6⟩ = some e) ∧
    Unreadable {} 25 (presents 0).bits ∧ Unreadable {} 26 0 ∧
    ({ facilityLength := 0 } : Format).facilityLength = 0 ∧
    (∀ b ∈ [5, 6], ({ works.tables with facilities := [(3, some ⟨b, 65536⟩)] } : Tables).facilities.get
      none 3 = some ⟨b, 65536⟩) ∧ works.lookup ⟨5, 6⟩ = none ∧
    Early { holding entry with clock := ⟨7, 0, 0, true⟩ } { entry with startDay := 8 } ∧
    Late { holding entry with clock := ⟨7, 0, 0, true⟩ } { entry with endDay := some 6 } ∧
    TenantHeld { works with tables := { works.tables with
      bankA := { tenants := [(63, ⟨0, true⟩)] } } } { entry with tenant := some 63 } := by
  unfold Unreadable
  refine ⟨by decide +kernel, by decide +kernel, by decide +kernel, rfl, by decide +kernel,
    by decide +kernel, ⟨rfl, by decide⟩, ⟨rfl, 6, rfl, by decide⟩, 63, rfl, by decide⟩

/-- An ACTIVE entry of another class than VISITOR, without a tenant, may be used while the clock is UNSET. -/
theorem mayBeUsed (s : State) (p : Presentation) (k : BadgeKey) (c : CredClass)
    (h : s.clock.isSet = false) (hc : c ≠ .visitor) :
    MayBeUsed s p k { entry with cls := c } :=
  ⟨rfl, by rintro ⟨n, h, -⟩; simp [entry] at h, fun e => absurd e.1 (by simp [h]),
    fun e => absurd e.1 (by simp [h]), .inl hc⟩

/-- Group 1's Call Queue holds the given number of other badges' calls and the trip's own. -/
def crowded (n : Nat) : State := { holding entry with
  trips := [{ trip with state := .queued }]
  groups := [(1, { queue := call :: List.replicate n { call with trip := 8 } })] }

theorem witness_StagesFiveToEightInOrder :
    (∀ s ∈ [holding entry, passing, crowded 7, crowded 8], s.clock.isSet = false) ∧
    (∀ x ∈ [(0, some 0), (127, some 127), (128, some 12), (129, some 12), (130, none), (255, none)],
      requested (holding entry) (presents (byteOf x.1)) ⟨5, 6⟩ entry = x.2) ∧
    requested works (presents 128) ⟨5, 6⟩ { entry with defaultLanding := none } = none ∧
    (∀ x ∈ [(12, true), (13, false)], (holding entry).inGrant entry x.1 = x.2) ∧
    Continues passing (presents 129) ⟨5, 6⟩ entry pass ∧ passing.route .routed true 15 40 = .oneLeg 2 ∧
    (crowded 7).tripOfKey ⟨5, 6⟩ = some { trip with state := .queued } ∧
    ¬ QueueFull (crowded 7) ⟨5, 6⟩ 1 ∧ QueueFull (crowded 8) ⟨5, 6⟩ 1 ∧
    QueueFull (crowded 7) ⟨5, 7⟩ 1 ∧ QueueFull { passing with groups := [(2,
      { queue := List.replicate 8 { call with trip := 8 } })] } ⟨5, 6⟩ 2 := by
  unfold Continues QueueFull
  decide +kernel

/-- The endings of stages 8 to 10 by the route, the key's record and the queue (R98 to R101). -/
theorem test_endings_of_a_decision :
    (∀ x ∈ [(12, Ending.create 1 none false), (40, Ending.create 1 (some 15) false),
        (127, Ending.deny .noRoute)],
      ((holding { entry with cls := .override }).decision (presents (byteOf x.1))).ending =
        x.2) ∧
    ((crowded 7).decision (presents 12)).ending = .repeated { trip with state := .queued } ∧
    ((crowded 7).decision (presents 40)).ending = .create 1 (some 15) false ∧
    ((crowded 8).decision (presents 40)).ending = .retry .groupBusy ∧
    ({ holding entry with tables := { (holding entry).tables with
      terminals := [(5, ⟨true, 0, 0, .fixed 2⟩)] } }.decision (presents 12)).ending =
        .deny .otherBank := by decide +kernel

theorem witness_BandInForceIsASpanOfMinutes :
    let b : Band := ⟨255, 1439, 1440, 0⟩
    let s : State := { works with clock := ⟨65535, 1439, 59, true⟩ }
    b.start < 1440 ∧ b.length ≤ 1440 ∧ s.clock.minute < 1440 ∧ s.bandInForce b = true ∧
      { s with clock := ⟨0, 1438, 0, true⟩ }.bandInForce b = false := by
  decide

theorem witness_RoutesTakeTheLowestGroup :
    (holding entry).route .routed false 0 12 = .oneLeg 1 ∧
    (holding entry).route .routed false 0 40 = .twoLegs 1 15 ∧
    { holding entry with groups := [(2, { service := .silent })] }.route .routed false 0 40 =
      .noService ∧ (holding entry).route .routed false 0 127 = .noRoute ∧
    (holding entry).route .routed true 0 40 = .noRoute ∧
    (holding entry).route (.fixed 6) false 0 12 = .otherBank := by
  decide +kernel

/-- A Trip List that is full of other badges' records, the third from its head alone settled. -/
def fullList : State := { holding entry with
  trips := (List.range 512).map (fun n => { trip with
    number := n + 1, key := ⟨7, n⟩, tag := n + 1, state := if n = 2 then .assigned else .queued }) }

theorem witness_AdmissionCreatesATrip :
    (∀ d ∈ [some 15, none], ∀ x ∈ [[], [{ trip with tag := 4095 }]],
      let s : State := { holding entry with trips := x }
      s.decision (presents (if d = none then 12 else 40)) =
        ⟨some ⟨5, 6⟩, some (if d = none then 12 else 40),
          if x = [] ∨ d ≠ none then .create 1 d false else .repeated { trip with tag := 4095 }⟩ ∧
      TagFree s 1) ∧
    (holding entry).tripOfKey ⟨5, 6⟩ = none ∧
    ({ holding entry with trips := [trip] } : State).tripOfKey ⟨5, 6⟩ = some trip ∧
    fullList.decision (presents 12) = ⟨some ⟨5, 6⟩, some 12, .create 1 none false⟩ ∧
    fullList.trips.length = 512 ∧ TagFree fullList 4 := by
  unfold TagFree
  refine ⟨by decide +kernel, by decide +kernel, by decide +kernel, by decide +kernel, by decide +kernel,
    by decide +kernel⟩

/-- The full list of the witness gives up its settled record for the new one. -/
theorem test_admission_into_a_full_list :
    let t := fullList.admission (presents 12)
    t.trips.length = 512 ∧ (t.trips.map (fun x => x.number)).getD 2 0 = 4 ∧ t.answers = [] := by
  decide +kernel

/-- After 65,535 comes trip 1 and after 4,095 tag 1, and the next that is free when they are held (R109, R128). -/
theorem test_allocation_wraps_and_passes_over :
    (∀ held ∈ [[], [trip]], let s : State := { holding entry with
        lastTrip := 65535, lastTag := 4095
        trips := held.map (fun x => { x with number := 1, tag := 1, state := .assigned }) }
      s.nextTrip = held.length + 1 ∧ s.nextTag = held.length + 1) := by
  decide +kernel

theorem witness_ContinuationCarriesThePass :
    passing.decision (presents 129) = ⟨some ⟨5, 6⟩, some 40, .carry pass 2 false⟩ ∧
    TagFree passing 4095 := by
  unfold TagFree
  decide +kernel

theorem witness_RepeatAndRetryLeaveTheTrips :
    ({ holding entry with trips := [{ trip with state := .queued }] }.decision (presents 128)).ending =
      .repeated { trip with state := .queued } ∧
    ({ holding entry with groups := [(1, { service := .held })] }.decision (presents 12)).ending =
      .retry .noService ∧
    ({ holding entry with groups := [(1, { queue := List.replicate 16 call })] }.decision
      (presents 12)).ending = .retry .groupBusy := by
  decide +kernel

theorem witness_CountedDenialsHoldTheTerminal :
    (withTerminal.decision (presents 0)).ending = .deny .unknownBadge ∧
    ((holding { entry with state := .lost }).decision (presents 0)).ending = .deny .lost ∧
    ((holding entry).decision (presents 0)).ending = .deny .sameLanding ∧
    (∀ v ∈ [({ tally := 3 } : TerminalState), { tally := 4 }, { tally := 4, holds := 2 }],
      ({ withTerminal with terminals := [(5, v)] }.decision (presents 0)).ending =
        .deny .unknownBadge) := by
  decide +kernel

theorem test_fifth_denial_holds : (after (.presentReply (heard 0 5 3 (present 0)))
    { replying with terminals := [(5, { tally := 4 })] }).terminal 5 =
      { service := .held 30000, holds := 1 } := by decide +kernel

theorem witness_SupersessionWithdrawsTheCall :
    (∀ st ∈ [TripState.queued, .called, .assigned, .awaitingTransfer],
      ({ trip with state := st } : Trip).state = st) ∧
    (calling.terminal trip.terminal).service = .awaiting trip.number ∧
    (∀ n ∈ [31, 32], (⟨1, 3⟩ : Cancel) ∉ List.replicate n (⟨2, 8⟩ : Cancel)) := by
  decide

/-- Group 1 is SILENT. -/
def silenced : State := { withGroup with groups := [(1, { service := .silent, streak := 3 })] }

theorem witness_FrameIsASignOfLife :
    (∀ g, 1 ≤ g → g ≤ 6 → (withGroup.groupConfig g).station = some 11 →
      (withGroup.group g).service ≠ .silent) ∧
    (silenced.groupConfig 1).station = some 11 ∧
    (∀ h, 1 ≤ h → h < 1 → (silenced.groupConfig h).station ≠ some 11) ∧
    (silenced.group 1).service = .silent := by
  exact ⟨by intro g _ _ _; simp [withGroup, works, State.reset, State.group],
    by decide, by intro h _ _; omega, by decide⟩

theorem witness_GPortFillsItsFifos :
    (∀ n ∈ [7, 8], Working { withGroup with requests := List.replicate n [] }) ∧
    judge (heard 90 100 32 [1]) = some ⟨90, 100, 32, [1]⟩ ∧
    withGroup.tables.settings.ownStation = 90 ∧ withGroup.tables.settings.headEnd = 100 ∧
    judge (heard 64 120 80 []) = some ⟨64, 120, 80, []⟩ ∧
    judge (heard 1 120 80 []) = some ⟨1, 120, 80, []⟩ ∧
    (∀ d ∈ [1, 5, 64], ∀ g, 1 ≤ g → g ≤ 6 → (withGroup.groupConfig g).station ≠ some d) ∧
    (withGroup.terminalConfig 5).configured = true := by
  unfold Working
  refine ⟨by decide, by decide +kernel, rfl, rfl, by decide +kernel, by decide +kernel, ?_, by decide⟩
  intro d hd g _ _
  have h11 : d ≠ 11 := by rintro rfl; simp at hd
  by_cases h : 1 = g <;>
    simp [h, h11.symm, withGroup, works, State.reset, State.groupConfig, Store.get]

theorem witness_AssignEndsTheCall :
    (∀ car ∈ [1, 16],
      ForThePart calling (heard 90 11 17 [0, 3, car]) ⟨90, 11, 17, payload [0, 3, car]⟩) ∧
    calling.groupOfStation 11 = some 1 ∧ calling.outstandingOf 1 3 = some ⟨call, 2000⟩ ∧
    calling.tripOf 9 = some trip := by
  unfold ForThePart Working
  decide +kernel

theorem witness_UnknownAssignIsCancelled :
    (∀ ns ∈ [[0, 4, 0], [0, 4, 1], [0, 4, 16], [0, 4, 17], [0, 4]],
      ForThePart calling (heard 90 11 17 ns) ⟨90, 11, 17, payload ns⟩) ∧
    calling.outstandingOf 1 4 = none ∧ calling.groupOfStation 12 = none ∧
    ForThePart calling (heard 90 12 17 [0, 4, 1]) ⟨90, 12, 17, payload [0, 4, 1]⟩ ∧
    (∃ y ∈ ({ calling with trips := [{ trip with tag := 4, state := .assigned }] } : State).trips,
      y.state = .assigned ∧ y.tag = 4 ∧ y.group = 1) := by
  unfold ForThePart Working
  decide +kernel

theorem witness_DeclineEndsTheTrip :
    (∀ ns ∈ [[0, 3, 0], [0, 3, 1], [0, 3, 2], [0, 4, 1], [0, 3]],
      ForThePart calling (heard 90 11 18 ns) ⟨90, 11, 18, payload ns⟩) ∧
    calling.groupOfStation 11 = some 1 ∧ calling.outstandingOf 1 4 = none ∧
    calling.outstandingOf 1 3 = some ⟨call, 2000⟩ ∧ calling.tripOf 9 = some trip := by
  unfold ForThePart Working
  decide +kernel

/-- A second trip, of terminal 64, and its call. -/
def other : Trip := { trip with number := 10, key := ⟨5, 7⟩, terminal := 64, tag := 4, state := .queued }
def otherCall : Call := { call with trip := 10, tag := 4 }

theorem witness_AnswerTimeoutRaisesTheStreak :
    ∀ n ∈ [1, 2], let s : State := { calling with
      trips := [trip, other]
      terminals := [(5, { service := .awaiting 9 }), (64, { service := .awaiting 10 })]
      groups := [(1, { streak := n, queue := [otherCall], outstanding := [⟨call, 2000⟩] })] }
    Working s ∧ s.outstandingOf 1 3 = some ⟨call, 2000⟩ ∧ s.tripOf 9 = some trip ∧
    tripsOfCalls s (s.group 1).queue = [other] ∧ Awaits s trip ∧ Awaits s other := by
  unfold Working Awaits
  decide

/-- A full Cancel List drops the tag of the timed-out call, and both events are raised. -/
theorem test_answerTimeout_at_a_full_cancel_list :
    let s := after (.answerTimeout 1 3) { calling with cancels := List.replicate 32 ⟨2, 8⟩ }
    s.event .cancelLost = ⟨true, 1⟩ ∧ s.event .groupSilent = ⟨true, 1⟩ ∧
    s.notices = [⟨.cancelLost, 1⟩, ⟨.groupSilent, 1⟩] := by decide +kernel

theorem test_silent_group_answers_both_terminals :
    (after (.answerTimeout 1 3) { calling with
      trips := [trip, other]
      terminals := [(5, { service := .awaiting 9 }), (64, { service := .awaiting 10 })]
      groups := [(1, { streak := 2, queue := [otherCall], outstanding := [⟨call, 2000⟩] })] }).answers =
      [⟨5, .retry, some .noAnswer, some 12, none, none, false⟩,
        ⟨64, .retry, some .noService, some 12, none, none, false⟩] := by decide +kernel

theorem witness_TimersExpire :
    let s : State := { works with
      terminals := [(1, { tally := 1, decay := some 700 }), (64, { service := .held 700 })]
      trips := [{ trip with number := 1, state := .assigned, expiry := some 700 },
        { trip with number := 65535, state := .awaitingTransfer, expiry := some 700 }] }
    Working s ∧ (s.terminal 1).decay = some 700 ∧ (s.terminal 64).service = .held 700 ∧
    (∀ n ∈ [1, 65535], (s.tripOf n).map (fun x => (x.number, x.expiry)) = some (n, some 700)) := by
  unfold Working
  decide

theorem witness_TransmitterTakesTheHead :
    (∀ cs ∈ [[⟨1, 258⟩], [(⟨2, 258⟩ : Cancel)], []], TransmitterFree { withGroup with cancels := cs }) ∧
    NoSendableCall withGroup ∧ NoSendableCall { queued with mode := .recall } ∧
    (∀ r ∈ [RestartPhase.none, .answered], TransmitterFree { works with restart := r }) := by
  unfold TransmitterFree NoSendableCall SendableCall Working
  refine ⟨by decide, ?_, ?_, by decide⟩
  · rintro g - - ⟨h, -⟩
    simp [withGroup, works, State.reset, State.group] at h
  · rintro g - - ⟨-, -, h⟩
    simp at h

theorem witness_SendCallTakesTheNextGroup :
    (∀ i ∈ [0, 5], let s : State := { queued with lastServed := 6 - i }
      TransmitterFree s ∧ s.cancels = [] ∧ (s.lastServed + i) % 6 + 1 = 1 ∧ SendableCall s 1 ∧
      (∀ j < i, ¬ SendableCall s ((s.lastServed + j) % 6 + 1)) ∧ (s.group 1).queue = [call] ∧
      (s.groupConfig 1).station = some 11) ∧
    ({ queued with mode := .recall } : State).mode = .recall := by
  unfold TransmitterFree SendableCall Working
  decide +kernel

theorem witness_AlarmInputsAreDebounced :
    let s := fun (n : Nat) (v : LineState) => ({ works with
      tables := { works.tables with alarmLines := [(7, { debounce := n })] }, lines := [(7, v)] } : State)
    (∀ n ∈ [0, 1], ∀ v ∈ [({ accepted := some .low } : LineState), { accepted := some .high }, {}],
      Working (s n v) ∧ (s n v).input 7 = .high ∧ (s n v).line 7 = v ∧
      ((s n v).lineConfig 7).debounce = n) ∧
    (∀ v ∈ [LineState.mk (some .low) (some 20) .active, ⟨some .high, some 20, .normal⟩],
      ((s 1 v).line 7).timer = some 20 ∧ (s 1 v).input 7 = .high) := by
  unfold Working
  decide

theorem witness_RecallClearsTheWorkInHand :
    (∀ m ∈ [BuildingMode.normal, .recall],
      Commanded { queued with requests := [request 29 []], mode := m } (request 29 []) [] 29 6 ∧
      Canonical { queued with requests := [request 29 []], mode := m } ∧
      Commanded { asked 30 [] with mode := m } (request 30 []) [] 30 6) ∧
    (let s : State := { withLine with lines := [(2, ⟨some .low, none, .active⟩)] }
      ∃ k ≤ 7, (s.line k).status ≠ .normal ∧ (s.lineConfig k).mask = false ∧
        (s.lineConfig k).action = .recall) := by
  unfold Commanded Asked Working
  refine ⟨?_, by decide⟩
  intro m hm
  refine ⟨by revert m; decide +kernel, ⟨⟨?_, ?_, ?_⟩, ?_⟩, by revert m; decide +kernel⟩
  · exact (by unfold TablesCanonical BankCanonical; decide +kernel : TablesCanonical queued.tables)
  · intro i h; simp [queued, calling, withGroup, works, State.reset] at h
  · intro i h; simp [queued, calling, withGroup, works, State.reset] at h
  · exact (by decide +kernel : Store.wf {} queued.terminals = true ∧ Store.wf {} queued.groups = true ∧
      Store.wf .high queued.inputs = true ∧ Store.wf {} queued.lines = true ∧
      Store.wf {} queued.events = true)

/-- Each of the requests, a WRITE (operation 3) or an ERASE (4) with `need` bytes of fixed fields, is one
that changes the table, at the index it is listed with. -/
def Changed (op table need : Nat) (xs : List (Nat × List Nat)) : Prop :=
  ∀ x ∈ xs, Changing (tableAsked op table x.1 x.2) (tableRequest op table x.1 x.2) [] op table need ∧
    numAt (tableRequest op table x.1 x.2) 8 2 = x.1

theorem witness_AlarmLineWriteTakesEffect :
    Changed 3 11 17 [(0, [0, 0, 0, 0, 0, 0, 0]), (7, [1, 1, 3, 1, 2, 255, 255]),
      (7, [1, 1, 4, 1, 2, 0, 0]), (8, [0, 0, 0, 0, 0, 0, 0]), (0, [2, 0, 0, 0, 0, 0, 0]),
      (0, [0, 2, 0, 0, 0, 0, 0]), (0, [0, 0, 0, 2, 0, 0, 0]), (0, [0, 0, 0, 0, 3, 0, 0])] ∧
    Changed 4 11 10 [(7, []), (8, [])] := by
  unfold Changed Changing Commanded Asked Working
  decide +kernel

theorem witness_ZonesAreLockedAndUnlocked :
    Commanded (asked 25 [128, 1]) (request 25 [128, 1]) [] 25 8 ∧
    Commanded (asked 26 [128, 1]) (request 26 [128, 1]) [] 26 8 := by
  unfold Commanded Asked Working
  decide +kernel

theorem witness_SaveGoesThroughItsSteps :
    ∀ k ∈ [SaveStep.clearMark, .eraseSectors, .programTables, .writeMark],
      ({ works with saving := some ⟨k, {}⟩ } : State).saving = some ⟨k, {}⟩ := by
  decide

/-- The operation and the fields of the request are those of a command of `need` bytes. -/
def Orders (need op : Nat) (xs : List (List Nat)) : Prop :=
  ∀ ns ∈ xs, Commanded (asked op ns) (request op ns) [] op need ∧ (asked op ns).saving = none

theorem witness_BanksAndSnapshots : Orders 6 16 [[]] ∧ Orders 6 17 [[]] ∧ Orders 6 18 [[]] := by
  unfold Orders Commanded Asked Working
  decide +kernel

theorem witness_RestartServiceAndSiteCode :
    Orders 6 19 [[]] ∧ Orders 6 20 [[]] ∧ Orders 10 22 [[255, 255, 255, 255]] := by
  unfold Orders Commanded Asked Working
  decide +kernel

theorem witness_ReleaseAcknowledgeAndClear :
    Orders 7 23 [[0], [1], [64], [65]] ∧ Orders 7 24 [[7], [8]] ∧
    Orders 9 31 [[255, 255, 240], [0, 0, 8]] ∧
    (∀ v ∈ [LineState.mk (some .low) none .latched, ⟨some .high, none, .latched⟩, {}],
      Commanded { asked 24 [7] with lines := [(7, v)] } (request 24 [7]) [] 24 7 ∧
      ({ asked 24 [7] with lines := [(7, v)] } : State).line 7 = v) := by
  unfold Orders Commanded Asked Working
  decide +kernel

theorem witness_HoldAndResumeAGroup :
    Orders 7 27 [[0], [1], [6], [7]] ∧ Orders 7 28 [[0], [1], [6], [7]] ∧
    (∀ op ∈ [27, 28], ∀ v ∈ [GroupService.inService, .silent, .held],
      let s : State := { queued with
        requests := [request op [1]], groups := [(1, { service := v, queue := [call] })] }
      Commanded s (request op [1]) [] op 7 ∧ (s.group 1).service = v ∧
      s.tripOf call.trip = some { trip with state := .queued } ∧
      (s.terminal 5).service = .awaiting 9) := by
  unfold Orders Commanded Asked Working
  decide +kernel

theorem witness_ReadsChangeNothing :
    (∀ x ∈ [(1, 0, 16383), (1, 0, 16384), (2, 0, 1023), (2, 1, 1023), (2, 2, 1023), (2, 0, 1024),
        (3, 0, 63), (3, 2, 63), (3, 0, 64), (4, 0, 31), (4, 2, 31), (4, 0, 32), (5, 0, 127),
        (5, 1, 127), (5, 2, 127), (5, 0, 128), (6, 0, 0), (6, 0, 1), (6, 0, 6), (6, 0, 7), (7, 0, 3),
        (7, 0, 4), (8, 0, 0), (8, 0, 1), (8, 0, 64), (8, 0, 65), (9, 0, 7), (9, 0, 8), (10, 0, 3),
        (10, 0, 4), (11, 0, 7), (11, 0, 8), (12, 0, 15), (12, 0, 16), (13, 0, 511), (13, 0, 512),
        (14, 0, 0)],
      let p := request 1 [x.1, x.2.1, x.2.2 / 256, x.2.2 % 256]
      Asked { works with requests := [p] } p [] 1 10 ∧ numAt p 8 2 = x.2.2) ∧
    (Asked { holding entry with requests := [tableRequest 2 1 0 [0, 5, 0, 0, 0, 6]] }
      (tableRequest 2 1 0 [0, 5, 0, 0, 0, 6]) [] 2 16 ∧ (holding entry).lookupWay ⟨5, 6⟩ = some 84 ∧
      (holding entry).way 84 = some entry ∧ works.lookupWay ⟨5, 6⟩ = none ∧
      works.way 16383 = none ∧ calling.trips[0]? = some trip) ∧
    Asked (asked 5 []) (request 5 []) [] 5 6 := by
  unfold Asked Working
  decide +kernel

/-- Requests shorter than the fixed fields of their operations: none of a byte, one of one, one short of the
operation's need, and the long Settings items one short of theirs. -/
theorem witness_shortRequests :
    (∀ p, let s : State := { works with requests := [p] }
      Working s ∧ s.requests = p :: [] ∧ s.responses.length < 4 ∧ s.restart = .none) ∧
    (∀ p ∈ [[], payload [7]], p.length < 2) ∧
    (∀ o ∈ readings ++ changes ++ orders,
      let p := (request o.code ((o.table.getD 0) :: List.replicate 24 0)).take
        (if o.command = .writeSettings then 10 else o.need - 1)
      2 ≤ p.length ∧ numAt p 1 1 = o.code ∧ (o.table.all (fun n => decide (numAt p 6 1 = n))) = true ∧
      p.length < (if o.command = .writeSettings then 11 else o.need)) ∧
    (∀ x ∈ [(4, 14), (11, 12), (13, 13)],
      let p := (tableRequest 3 12 x.1 (List.replicate 4 0)).take (x.2 - 1)
      numAt p 1 1 = 3 ∧ numAt p 6 1 = 12 ∧ 10 ≤ p.length ∧ numAt p 8 2 = x.1 ∧ p.length < x.2) ∧
    (∀ x ∈ [(1, 0), (1, 15), (2, 2), (3, 0), (3, 13), (4, 0), (4, 12)],
      let p := payload [7, x.1, 0, 0, 0, 0, x.2, 0, 0]
      2 ≤ p.length ∧ numAt p 1 1 = x.1 ∧ numAt p 6 1 = x.2 ∧ p.length < 10) ∧
    (∀ op ∈ [0, 6, 15, 32, 255], 2 ≤ (payload [7, op]).length ∧ numAt (payload [7, op]) 1 1 = op) := by
  refine ⟨fun p => ⟨⟨rfl, ?_⟩, rfl, ?_, rfl⟩, by decide +kernel, by decide +kernel, by decide +kernel,
    by decide +kernel, by decide +kernel⟩
  · simp [works, State.reset]
  · simp [works, State.reset]

theorem test_short_request_is_bad_field_first :
    (after .setTime { works with requests := [payload [7, 21, 9, 9, 9, 9, 1]] }).responses =
      [⟨7, 21, .badField, []⟩] := by decide +kernel

theorem witness_RefusedRequestsChangeNothing :
    (∀ op ∈ [0, 6, 15, 32, 255], Asked (asked op []) (request op []) [] op 6) ∧
    (∀ t ∈ [0, 15, 255], Asked (tableAsked 1 t 0 []) (tableRequest 1 t 0 []) [] 1 10) ∧
    Asked (tableAsked 2 2 0 [0, 5, 0, 0, 0, 6]) (tableRequest 2 2 0 [0, 5, 0, 0, 0, 6]) [] 2 16 ∧
    (∀ t ∈ [0, 13, 255], Commanded (tableAsked 3 t 0 []) (tableRequest 3 t 0 []) [] 3 10) ∧
    (∀ t ∈ [0, 12, 255], Commanded (tableAsked 4 t 0 []) (tableRequest 4 t 0 []) [] 4 10) ∧
    (∀ o ∈ changes ++ orders,
      let p := request o.code ((o.table.getD 0) :: List.replicate 25 0)
      Asked { works with requests := [p], siteCode := ⟨1, .set⟩ } p [] o.code (o.needOf p) ∧
      BitVec.ofNat 32 (numAt p 2 4) ≠ 1#32 ∧ (∀ n, o.table = some n → numAt p 6 1 = n)) ∧
    (∀ o ∈ changes,
      let p := request o.code ((o.table.getD 0) :: List.replicate 25 0)
      Commanded { works with requests := [p], saving := some ⟨.clearMark, {}⟩ } p []
        o.code (o.needOf p)) ∧
    (∀ x ∈ [(0, 11), (4, 14), (11, 12), (13, 13), (14, 11), (16, 11)],
      let p := (tableRequest 3 12 x.1 [0, 0, 0, 0]).take x.2
      Operation.needOf ⟨.writeSettings, 3, some 12, 14⟩ p = x.2 ∧
      Asked { works with requests := [p], siteCode := ⟨1, .set⟩ } p [] 3 x.2) ∧
    (∀ x ∈ [(3, 0), (3, 13), (3, 255), (4, 0), (4, 12), (4, 255)],
      let p := tableRequest x.1 x.2 0 []
      Asked { works with requests := [p], siteCode := ⟨1, .set⟩ } p [] x.1 10 ∧
      Commanded { works with requests := [p], saving := some ⟨.clearMark, {}⟩ } p [] x.1 10) := by
  unfold Commanded Asked Working
  refine ⟨by decide +kernel, by decide +kernel, by decide +kernel, by decide +kernel,
    by decide +kernel, ?_, by decide +kernel, by decide +kernel, by decide +kernel⟩
  intro o ho
  simp only [changes, orders, List.cons_append, List.nil_append, List.mem_cons, List.not_mem_nil,
    or_false] at ho
  rcases ho with rfl | rfl | rfl | rfl | rfl | rfl | rfl | rfl | rfl | rfl | rfl | rfl | rfl | rfl |
    rfl | rfl | rfl | rfl | rfl | rfl | rfl | rfl | rfl | rfl | rfl | rfl | rfl | rfl | rfl | rfl |
    rfl | rfl | rfl | rfl | rfl | rfl | rfl | rfl | rfl <;>
  refine ⟨by decide +kernel, by decide +kernel, ?_⟩ <;> rintro n h <;> cases h <;> decide +kernel

/-- A WRITE of an undefined table is checked for the site code, and for a save, first (R175). -/
theorem test_undefined_table_is_authorized_first :
    reply .undefinedOperation { tableAsked 3 13 0 [] with siteCode := ⟨1, .set⟩ } =
      some (.notAuthorized, []) ∧
    reply .undefinedOperation { tableAsked 3 13 0 [] with saving := some ⟨.clearMark, {}⟩ } =
      some (.busy, []) := by decide +kernel

/-- A VISITOR entry with one trip left, of tenant 63, that ends on its start day; then one of tenant 64, one
that ends a day before its start, and one of default landing 128. -/
def visitors : List (Nat × List Nat) :=
  [(0, [0, 5, 0, 0, 0, 6, 64, 17, 63, 78, 32, 78, 32, 1, 127, 0]),
    (0, [0, 5, 0, 0, 0, 6, 64, 17, 64, 78, 32, 0, 0, 1, 31, 128]),
    (0, [0, 5, 0, 0, 0, 6, 64, 17, 0, 78, 32, 78, 31, 1, 31, 0]),
    (0, [0, 5, 0, 0, 0, 6, 64, 17, 0, 78, 32, 0, 0, 1, 128, 0])]

theorem witness_CredentialsAreWrittenAndErased :
    Changed 3 1 26 (visitors ++ [(0, badge)]) ∧ Changed 4 1 16 [(0, [0, 5, 0, 0, 0, 6])] ∧
    (holding entry).lookupWay ⟨5, 6⟩ = some 84 ∧ (holding entry).lookupWay ⟨5, 4102⟩ = none ∧
    84 / 4 = bucketOf ⟨5, 6⟩ ∧ works.way 84 = none ∧ works.lookupWay ⟨5, 6⟩ = none ∧
    (∀ v, v / 4 = bucketOf ⟨5, 6⟩ → v < 84 → works.way v ≠ none) ∧
    (let s : State := { works with tables := { works.tables with
        credentials := [84, 85, 86, 87].map (fun w => (w, some { entry with key := ⟨w, 0⟩ })) } };
      s.lookupWay ⟨5, 6⟩ = none ∧ ∀ w ∈ [84, 85, 86, 87], s.way w ≠ none) := by
  refine ⟨?_, ?_, by decide +kernel, by decide +kernel, by decide, by decide, by decide +kernel, ?_,
    by decide +kernel⟩
  · unfold Changed Changing Commanded Asked Working; decide +kernel
  · unfold Changed Changing Commanded Asked Working; decide +kernel
  · intro v h hv
    rw [(by decide : bucketOf ⟨5, 6⟩ = 21)] at h
    omega

theorem holding_sound : CredentialTableSound (holding entry) := by
  refine ⟨⟨⟨by decide +kernel, ?_⟩, ?_, ?_⟩, by decide, by decide⟩
  · intro w e h
    obtain ⟨rfl, rfl⟩ : w = 84 ∧ e = entry := by simpa [holding] using h
    refine ⟨by decide, fun v f h _ => ?_⟩
    have h : v = 84 ∧ f = entry := by simpa [holding] using h
    exact h.1
  · intro i h; simp [holding, withGroup, works, State.reset] at h
  · intro i h; simp [holding, withGroup, works, State.reset] at h

theorem witness_LookupFindsTheEntry : CredentialTableSound (holding entry) ∧
    (holding entry).lookup ⟨5, 6⟩ = some entry ∧ (holding entry).lookup ⟨5, 7⟩ = none :=
  ⟨holding_sound, by decide +kernel, by decide +kernel⟩

theorem witness_PolicyTablesAreWrittenInStandby :
    Changed 3 2 31 [(0, [0, 0, 0, 0, 1] ++ firstLandings 0 0),
      (1023, [255, 5, 159, 5, 160] ++ firstLandings 255 255),
      (1023, [255, 5, 159, 5, 161] ++ firstLandings 0 0), (1024, [0, 0, 0, 0, 1] ++ firstLandings 0 0),
      (0, [0, 5, 160, 0, 1] ++ firstLandings 0 0), (0, [0, 0, 0, 0, 0] ++ firstLandings 0 0)] ∧
    Changed 3 3 27 [(63, firstLandings 255 0 ++ [1]), (64, firstLandings 0 0 ++ [0]),
      (0, firstLandings 0 0 ++ [2])] ∧
    Changed 3 4 12 [(31, [255, 255]), (32, [0, 0])] ∧
    Changed 3 5 13 [(127, [15, 1, 1]), (128, [0, 0, 0]), (0, [16, 0, 0]), (0, [0, 2, 0]),
      (0, [0, 0, 2])] ∧
    Changed 4 2 10 [(1023, []), (1024, [])] ∧ Changed 4 3 10 [(63, []), (64, [])] ∧
    Changed 4 4 10 [(31, []), (32, [])] ∧ Changed 4 5 10 [(127, []), (128, [])] := by
  unfold Changed Changing Commanded Asked Working
  refine ⟨?_, ?_, ?_, ?_, ?_, ?_, ?_, ?_⟩ <;> decide +kernel

theorem witness_GroupsAndLobbiesAreWritten :
    Changed 3 6 29 [(0, [11] ++ firstLandings 0 0 ++ [4, 8]), (1, [1] ++ firstLandings 0 0 ++ [1, 1]),
      (6, [126] ++ firstLandings 0 0 ++ [16, 32]), (6, [126] ++ firstLandings 0 0 ++ [17, 33]),
      (7, [11] ++ firstLandings 0 0 ++ [4, 8]), (1, [0] ++ firstLandings 0 0 ++ [4, 8]),
      (1, [127] ++ firstLandings 0 0 ++ [4, 8]), (1, [90] ++ firstLandings 0 0 ++ [4, 8])] ∧
    Changed 4 6 10 [(0, []), (1, []), (6, []), (7, [])] ∧
    Changed 3 7 11 [(3, [127]), (4, [0]), (0, [128])] ∧ Changed 4 7 10 [(3, []), (4, [])] ∧
    (queued.group 1).queue ≠ [] ∧ (calling.group 1).outstanding ≠ [] := by
  unfold Changed Changing Commanded Asked Working
  decide +kernel

theorem witness_TerminalsAreWrittenAndErased :
    Changed 3 8 13 [(0, [0, 0, 0]), (1, [0, 0, 0]), (64, [127, 7, 6]), (65, [0, 0, 0]),
      (1, [128, 0, 0]), (1, [0, 8, 0]), (1, [0, 0, 7])] ∧
    Changed 4 8 10 [(0, []), (1, []), (64, []), (65, [])] ∧
    (∀ v ∈ [TerminalService.idle, .awaiting 9],
      let s : State := { withTerminal with
        requests := [tableRequest 4 8 5 []], terminals := [(5, { service := v })] }
      Changing s (tableRequest 4 8 5 []) [] 4 8 10 ∧ (s.terminal 5).service = v ∧
      (s.terminalConfig 5).configured = true) := by
  unfold Changed Changing Commanded Asked Working
  decide +kernel

theorem witness_FormatsAndRangesAreWritten :
    Changed 3 9 16 [(0, [26, 1, 8, 9, 16, 1]), (7, [64, 63, 0, 32, 32, 0]), (7, [64, 62, 0, 32, 31, 1]),
      (7, [64, 62, 0, 32, 32, 1]), (8, [26, 1, 8, 9, 16, 1]), (0, [25, 1, 8, 9, 16, 1]),
      (0, [65, 1, 8, 9, 16, 1]), (0, [64, 64, 0, 32, 32, 0])] ∧
    Changed 4 9 10 [(7, []), (8, [])] ∧
    Changed 3 10 15 [(3, [255, 255, 1, 0, 0]), (0, [0, 0, 0, 0, 1]), (4, [0, 0, 0, 0, 1]),
      (0, [0, 0, 0, 0, 0]), (0, [0, 0, 1, 0, 1])] ∧
    Changed 4 10 10 [(3, []), (4, [])] := by
  unfold Changed Changing Commanded Asked Working
  decide +kernel

theorem witness_SettingsItemsAreWritten :
    Changed 3 12 11 [(0, [1]), (0, [126]), (0, [127]), (0, [100]), (1, [126]), (1, [90]), (2, [2]),
      (2, [128]), (2, [129]), (3, [6]), (3, [7]), (16, [0])] ∧
    Changed 3 12 11 [(4, [5, 159, 5, 160]), (4, [5, 160, 0, 0]), (5, [15]), (6, [3]), (7, [7]),
      (8, [15]), (9, [1]), (9, [2]), (10, [60]), (11, [3, 132])] ∧
    Changed 3 12 11 [(12, [1]), (12, [2]), (13, [255, 255, 240]), (13, [0, 0, 8]), (14, [0]),
      (14, 16 :: List.range' 64 16), (14, 17 :: List.replicate 17 77), (15, [1, 35]),
      (15, [2, 77, 77]), (15, [1])] := by
  unfold Changed Changing Commanded Asked Working
  refine ⟨?_, ?_, ?_⟩ <;> decide +kernel

theorem witness_ActiveBankIsNotWritten :
    exec .loadingEnd State.reset = .next (after .loadingEnd State.reset) ∧
    Instr.loadingEnd ∉ [Instr.switchBanks, .fullResetEnd, .restartMade] := ⟨rfl, by decide⟩

/-- The worked example of R163, by the check as the statements write it. -/
theorem test_checkOfBytes_example :
    checkOfBytes (payload [49, 50, 51, 52, 53, 54, 55, 56, 57]) = 10673 := by decide +kernel

/-- One reception for each of the receiver's tests: a stop bit or gap, too few bytes, a length above 56, a
length that the bytes do not match, and a wrong check. -/
theorem test_each_test_can_fail :
    (∀ r ∈ [(⟨composeFrame 1 2 3 [], false⟩ : Reception), ⟨[1, 2, 3, 0, 0], true⟩,
        ⟨composeFrame 1 2 3 (List.replicate 57 0), true⟩, ⟨composeFrame 1 2 3 [] ++ [0], true⟩,
        ⟨[1, 2, 3, 0, 0, 0], true⟩], FailsATest r) ∧
    ¬ FailsATest ⟨composeFrame 1 2 3 [], true⟩ := by
  unfold FailsATest
  decide +kernel

theorem witness_ComposedFramesAreGood :
    (255 ≤ 255 ∧ (List.replicate 56 (0 : Byte)).length ≤ 56) ∧
    judge ⟨composeFrame 255 255 255 (List.replicate 8 0), true⟩ =
      some ⟨255, 255, 255, List.replicate 8 0⟩ ∧ 0 + 1 < ([1, 2] : List Byte).length := by
  decide +kernel

/-- The premises of the invariants' statements: the invariant, here away from the reset state, and a step. -/
theorem witness_invariants_step : ∃ t, step { calling with pending := [.answerTimeout 1 3] } = .next t :=
  ⟨_, rfl⟩

theorem witness_ClockStaysInRange :
    ClockInRange { works with clock := ⟨65535, 1439, 59, true⟩, pending := [.clockAdvance] } := by
  unfold ClockInRange
  decide

theorem witness_LockedSiteCodeStays : step { State.reset with
    siteCode := ⟨5, .locked⟩, pending := [.loadingEnd] } =
    .next (after .loadingEnd { State.reset with siteCode := ⟨5, .locked⟩ }) := rfl

/-- A full request FIFO, an answer that waits, a call outstanding and its terminal AWAITING. -/
def busy : State := { calling with
  requests := List.replicate 8 [], answers := [⟨6, .retry, none, none, none, none, false⟩] }

theorem busy_group (g : Nat) : busy.group g =
    if g = 1 then { streak := 2, outstanding := [⟨call, 2000⟩] } else {} := by
  by_cases h : g = 1
  · subst h; rfl
  · simp [busy, calling, State.group, Store.get, h, Ne.symm h]

theorem busy_limits : EveryTables LimitsWithin busy := by
  refine ⟨⟨fun g => ?_, fun u g h => ?_⟩, fun i h => ?_, fun j h => ?_⟩
  · by_cases h : 1 = g <;>
      simp [busy, calling, withGroup, Store.get, h]
  · by_cases hu : 5 = u <;>
      simp [busy, calling, withGroup, withTerminal, Store.get, hu] at h
  · simp [busy, calling, withGroup, works, State.reset] at h
  · simp [busy, calling, withGroup, works, State.reset] at h

theorem busy_awaits (u n : Nat) (h : (busy.terminal u).service = .awaiting n) : u = 5 := by
  by_contra hu
  simp [busy, calling, State.terminal, Store.get, Ne.symm hu] at h

theorem witness_FifosStayWithin : FifosWithin busy := by
  refine ⟨by decide, by decide, by decide, by decide, by decide, by decide, by decide,
    ⟨by decide, by decide, ?_, ?_, ?_⟩, busy_limits, by decide, by decide, by decide, by decide, ?_⟩
  · intro a ha
    obtain rfl : a = ⟨6, .retry, none, none, none, none, false⟩ := by simpa [busy] using ha
    exact ⟨by decide, by decide, fun n h => absurd (busy_awaits 6 n h) (by decide)⟩
  · intro u n h
    obtain rfl := busy_awaits u n h
    decide
  · intro x h
    simp [busy, calling, withGroup, works, State.reset] at h
  · intro g
    rw [busy_group]
    by_cases h : g = 1
    · subst h; unfold CallsOfTrips; decide
    · have h : 1 ≠ g := Ne.symm h
      simp [CallsOfTrips, busy, calling, trip, h, Ne.symm h]

theorem witness_TablesStayCanonical : Canonical (holding entry) := by
  refine ⟨⟨?_, ?_, ?_⟩, by decide +kernel⟩
  · unfold TablesCanonical BankCanonical; decide +kernel
  · intro i h; simp [holding, withGroup, works, State.reset] at h
  · intro i h; simp [holding, withGroup, works, State.reset] at h

theorem witness_CredentialTableStaysSound : CredentialTableSound (holding entry) := holding_sound

theorem witness_TerminalsStaySound : TerminalsSound { works with
    groups := [(6, { service := .silent, streak := 3 })]
    terminals := [(1, { tally := 15, decay := some 700, holds := 6 }),
      (64, { absent := true, misses := 3, service := .latched, holds := 7 })] } := by
  refine ⟨?_, ⟨by decide, ?_, ?_⟩, fun g => ?_⟩
  · intro e he
    simp only [List.mem_cons, List.not_mem_nil, or_false] at he
    rcases he with rfl | rfl <;> simp [TerminalSound]
  · intro i h; simp [works, State.reset] at h
  · intro j h; simp [works, State.reset] at h
  · by_cases h : 6 = g <;> simp [State.group, Store.get, h]

theorem witness_BuildingModeFollows : ModeFollows { withLine with
    mode := .recall, lines := [(2, ⟨some .low, none, .active⟩)] } := by
  unfold ModeFollows
  decide

theorem witness_OneTripForEachKey : OneTripPerKey { works with
    trips := [trip, { trip with number := 10, key := ⟨5, 7⟩ }] } := by
  unfold OneTripPerKey
  decide

end Sys2Proof.Tests
end

section
/-! SUPPORT. The Route Selector's searches in the statements' terms, and the proof of O17 (01, section 1.4). -/

namespace Sys2Proof.Safety

open Sys2Proof.Machine

/-! ## Searches over index ranges -/

/-- The first index of a range at which a function answers. -/
theorem findSome?_range_eq_some {β : Type} (f : Nat → Option β) (n : Nat) (b : β) :
    (List.range n).findSome? f = some b ↔ ∃ i < n, f i = some b ∧ ∀ j < i, f j = none := by
  induction n with
  | zero => simp
  | succ n ih =>
    rw [List.range_succ, List.findSome?_append, Option.or_eq_some_iff, ih,
      List.findSome?_eq_none_iff]
    simp only [List.findSome?_singleton, List.mem_range]
    constructor
    · rintro (⟨i, hi, hb, hlow⟩ | ⟨hlow, hb⟩)
      · exact ⟨i, by omega, hb, hlow⟩
      · exact ⟨n, by omega, hb, hlow⟩
    · rintro ⟨i, hi, hb, hlow⟩
      rcases Nat.lt_or_eq_of_le (Nat.le_of_lt_succ hi) with hi | rfl
      · exact .inl ⟨i, hi, hb, hlow⟩
      · exact .inr ⟨hlow, hb⟩

/-- The group numbers are the numbers 1 to 6. -/
theorem mem_groupNumbers (g : Nat) : g ∈ groupNumbers ↔ 1 ≤ g ∧ g ≤ 6 := by
  change g ∈ List.range' 1 6 ↔ _
  rw [List.mem_range'_1]
  omega

/-! ## The one-leg and the two-leg search (R14, R15) -/

/-- What either search asks of a group: with `any` that it serves both landings, otherwise that it is
IN_SERVICE as well. -/
def Usable (s : State) (any : Bool) (g o d : Nat) : Prop :=
  Joins s g o d ∧ (any = true ∨ (s.group g).service = .inService)

theorem usable_true (s : State) : Usable s true = Joins s := by
  funext g o d; simp [Usable]

theorem usable_false (s : State) : Usable s false = Carries s := by
  funext g o d; simp [Usable, Carries]

/-- The test of the one-leg search is `Usable`, for a group number of the six. -/
theorem usable_iff (s : State) (any : Bool) (g o d : Nat) :
    Usable s any g o d ↔
      (1 ≤ g ∧ g ≤ 6) ∧ ((any || s.inService g) && s.serves g o && s.serves g d) = true := by
  simp only [Usable, Joins, State.inService, Bool.and_eq_true, Bool.or_eq_true, decide_eq_true_eq]
  tauto

/-- The one-leg search gives the lowest-numbered usable group. -/
theorem oneLeg_eq_some_iff (s : State) (any : Bool) (o d g : Nat) :
    s.oneLeg any o d = some g ↔ Usable s any g o d ∧ ∀ h < g, ¬ Usable s any h o d := by
  change (List.range' 1 6).find? _ = some g ↔ _
  rw [List.find?_range'_eq_some, usable_iff, List.mem_range'_1]
  constructor
  · rintro ⟨htest, hrange, hlow⟩
    refine ⟨⟨by omega, htest⟩, fun h hlt hu => ?_⟩
    obtain ⟨⟨h1, -⟩, hh⟩ := (usable_iff ..).1 hu
    have hn := hlow h h1 hlt
    rw [hh] at hn
    exact absurd hn (by decide)
  · rintro ⟨⟨hrange, htest⟩, hlow⟩
    refine ⟨htest, by omega, fun h h1 hlt => ?_⟩
    rw [Bool.not_eq_true', ← Bool.not_eq_true]
    exact fun hh => hlow h hlt ((usable_iff ..).2 ⟨by omega, hh⟩)

/-- The one-leg search over available groups gives the lowest carrier. -/
theorem oneLeg_eq_lowestCarrier (s : State) (o d g : Nat) :
    s.oneLeg false o d = some g ↔ LowestCarrier s g o d := by
  rw [oneLeg_eq_some_iff, usable_false]; rfl

/-- The one-leg search gives nothing when no group is usable. -/
theorem oneLeg_eq_none_iff (s : State) (any : Bool) (o d : Nat) :
    s.oneLeg any o d = none ↔ ∀ g, ¬ Usable s any g o d := by
  simp only [State.oneLeg_eq_none, mem_groupNumbers, usable_iff, Bool.and_eq_true, and_assoc, not_and,
    and_imp]

theorem oneLeg_isSome_iff (s : State) (any : Bool) (o d : Nat) :
    (s.oneLeg any o d).isSome = true ↔ ∃ g, Usable s any g o d := by
  rw [← Option.ne_none_iff_isSome, Ne, oneLeg_eq_none_iff, not_forall_not]

/-! ### The Sky Lobby List -/

/-- A slot holds one lobby at most. -/
theorem Lobby.unique {s : State} {slot l m o d : Nat} (hl : Lobby s slot l o d)
    (hm : Lobby s slot m o d) : l = m :=
  Option.some.inj (hl.2.1.symm.trans hm.2.1)

/-- A slot with a lobby gives a route when the lobby joins two usable groups. -/
theorem viaSlot_of_lobby {s : State} {slot l o d : Nat} (any : Bool) (h : Lobby s slot l o d) :
    s.viaSlot any o d slot =
      if (s.oneLeg any l d).isSome then (s.oneLeg any o l).map (fun g => (g, l)) else none := by
  obtain ⟨-, hget, hcount, ho, hd⟩ := h
  have hp : ¬ ((s.settings.landingCount ≤ l || decide (l = o) || decide (l = d)) = true) := by
    simp only [Bool.or_eq_true, decide_eq_true_eq, not_or, not_le]
    exact ⟨⟨hcount, ho⟩, hd⟩
  simp only [State.viaSlot, hget, if_neg hp]
  cases s.oneLeg any o l <;> cases s.oneLeg any l d <;> rfl

/-- An empty slot, and one whose landing is passed over, give no route. -/
theorem viaSlot_of_no_lobby {s : State} {slot o d : Nat} (any : Bool) (hs : slot ≤ 3)
    (h : ∀ l, ¬ Lobby s slot l o d) : s.viaSlot any o d slot = none := by
  unfold State.viaSlot
  split
  · rfl
  · rename_i l hget
    refine if_pos ?_
    by_contra hp
    simp only [Bool.or_eq_true, decide_eq_true_eq, not_or, not_le] at hp
    obtain ⟨⟨hcount, ho⟩, hd⟩ := hp
    exact h l ⟨hs, hget, hcount, ho, hd⟩

theorem viaSlot_eq_some_iff (s : State) (any : Bool) (o d slot g l : Nat) (hs : slot ≤ 3) :
    s.viaSlot any o d slot = some (g, l) ↔
      Lobby s slot l o d ∧ s.oneLeg any o l = some g ∧ ∃ h, Usable s any h l d := by
  rw [← oneLeg_isSome_iff]
  by_cases hlobby : ∃ m, Lobby s slot m o d
  · obtain ⟨m, hm⟩ := hlobby
    rw [viaSlot_of_lobby any hm, Option.ite_none_right_eq_some, Option.map_eq_some_iff]
    constructor
    · rintro ⟨hsecond, g', hfirst, heq⟩
      obtain ⟨rfl, rfl⟩ := Prod.mk.inj heq
      exact ⟨hm, hfirst, hsecond⟩
    · rintro ⟨hl, hfirst, hsecond⟩
      obtain rfl := hl.unique hm
      exact ⟨hsecond, g, hfirst, rfl⟩
  · have hno := not_exists.1 hlobby
    rw [viaSlot_of_no_lobby any hs hno]
    exact ⟨nofun, fun h => absurd h.1 (hno l)⟩

theorem viaSlot_eq_none_iff (s : State) (any : Bool) (o d slot : Nat) (hs : slot ≤ 3) :
    s.viaSlot any o d slot = none ↔
      ∀ l, Lobby s slot l o d → ¬ Bridge (Usable s any) l o d := by
  constructor
  · rintro hnone l hl ⟨hfirst, hsecond⟩
    obtain ⟨g, hg⟩ := Option.isSome_iff_exists.1 ((oneLeg_isSome_iff ..).2 hfirst)
    have := (viaSlot_eq_some_iff s any o d slot g l hs).2 ⟨hl, hg, hsecond⟩
    rw [hnone] at this
    exact nomatch this
  · intro h
    refine Option.eq_none_iff_forall_ne_some.2 fun ⟨g, l⟩ hsome => ?_
    obtain ⟨hl, hfirst, hsecond⟩ := (viaSlot_eq_some_iff s any o d slot g l hs).1 hsome
    exact h l hl ⟨⟨g, ((oneLeg_eq_some_iff ..).1 hfirst).1⟩, hsecond⟩

/-- The two-leg search over available groups gives the first bridge in slot order. -/
theorem twoLegs_eq_firstBridge (s : State) (o d g l : Nat) :
    s.twoLegs false o d = some (g, l) ↔ FirstBridge s g l o d := by
  change (List.range 4).findSome? _ = some (g, l) ↔ _
  rw [findSome?_range_eq_some]
  unfold FirstBridge
  refine exists_congr fun slot => ?_
  constructor
  · rintro ⟨hs, hsome, hlow⟩
    rw [viaSlot_eq_some_iff _ _ _ _ _ _ _ (by omega), oneLeg_eq_lowestCarrier, usable_false] at hsome
    obtain ⟨hl, hfirst, hsecond⟩ := hsome
    refine ⟨hl, hfirst, hsecond, fun j m hj hm => ?_⟩
    rw [← usable_false]
    exact (viaSlot_eq_none_iff _ _ _ _ _ (by omega)).1 (hlow j hj) m hm
  · rintro ⟨hl, hfirst, hsecond, hlow⟩
    have hs : slot ≤ 3 := hl.1
    refine ⟨by omega, ?_, fun j hj => ?_⟩
    · rw [viaSlot_eq_some_iff _ _ _ _ _ _ _ hs, oneLeg_eq_lowestCarrier, usable_false]
      exact ⟨hl, hfirst, hsecond⟩
    · rw [viaSlot_eq_none_iff _ _ _ _ _ (by omega), usable_false]
      exact fun m => hlow j m hj

/-- The two-leg search gives nothing when no lobby joins two usable groups. -/
theorem twoLegs_eq_none_iff (s : State) (any : Bool) (o d : Nat) :
    s.twoLegs any o d = none ↔
      ∀ slot l, Lobby s slot l o d → ¬ Bridge (Usable s any) l o d := by
  change (List.range 4).findSome? _ = none ↔ _
  rw [List.findSome?_eq_none_iff]
  constructor
  · intro h slot l hl
    have hs : slot ≤ 3 := hl.1
    exact (viaSlot_eq_none_iff _ _ _ _ _ hs).1 (h slot (List.mem_range.2 (by omega))) l hl
  · intro h slot hmem
    have hs := List.mem_range.1 hmem
    exact (viaSlot_eq_none_iff _ _ _ _ _ (by omega)).2 (h slot)

theorem twoLegs_isSome_iff (s : State) (any : Bool) (o d : Nat) :
    (s.twoLegs any o d).isSome = true ↔
      ∃ slot l, Lobby s slot l o d ∧ Bridge (Usable s any) l o d := by
  rw [← Option.ne_none_iff_isSome, Ne, twoLegs_eq_none_iff]
  simp only [not_forall, not_not, exists_prop]

/-! ## What the Route Selector returns (R14 to R17) -/

section
variable (s : State) (o d : Nat)

theorem routeNew_eq_oneLeg_iff (g : Nat) :
    s.routeNew o d = .oneLeg g ↔ LowestCarrier s g o d := by
  rw [← oneLeg_eq_lowestCarrier, State.routeNew]
  rcases s.oneLeg false o d with _ | g' <;> rcases s.twoLegs false o d with _ | ⟨g'', l⟩ <;> simp
  split <;> simp

theorem routeNew_eq_twoLegs_iff (g l : Nat) :
    s.routeNew o d = .twoLegs g l ↔ (∀ h, ¬ Carries s h o d) ∧ FirstBridge s g l o d := by
  rw [← twoLegs_eq_firstBridge, ← usable_false, ← oneLeg_eq_none_iff, State.routeNew]
  rcases s.oneLeg false o d with _ | g' <;> rcases s.twoLegs false o d with _ | ⟨g'', m⟩ <;> simp
  split <;> simp

/-- A group of any service state serves both landings, or two of them do over a sky lobby. -/
def CouldServe : Prop :=
  (∃ h, Joins s h o d) ∨ ∃ slot l, Lobby s slot l o d ∧ Bridge (Joins s) l o d

theorem couldServe_iff :
    CouldServe s o d ↔
      ((s.oneLeg true o d).isSome || (s.twoLegs true o d).isSome) = true := by
  rw [Bool.or_eq_true, oneLeg_isSome_iff, twoLegs_isSome_iff, usable_true]
  rfl

/-- No available route, in either search. -/
def NoneAvailable : Prop :=
  (∀ h, ¬ Carries s h o d) ∧ ∀ slot l, Lobby s slot l o d → ¬ Bridge (Carries s) l o d

theorem noneAvailable_iff :
    NoneAvailable s o d ↔ s.oneLeg false o d = none ∧ s.twoLegs false o d = none := by
  rw [oneLeg_eq_none_iff, twoLegs_eq_none_iff, usable_false]
  rfl

theorem routeNew_eq_noService_iff :
    s.routeNew o d = .noService ↔ NoneAvailable s o d ∧ CouldServe s o d := by
  rw [noneAvailable_iff, couldServe_iff, State.routeNew]
  generalize ((s.oneLeg true o d).isSome || (s.twoLegs true o d).isSome) = could
  rcases s.oneLeg false o d with _ | g <;> rcases s.twoLegs false o d with _ | ⟨g', m⟩ <;> simp

theorem routeNew_eq_noRoute_iff :
    s.routeNew o d = .noRoute ↔ NoneAvailable s o d ∧ ¬ CouldServe s o d := by
  rw [noneAvailable_iff, couldServe_iff, State.routeNew]
  generalize ((s.oneLeg true o d).isSome || (s.twoLegs true o d).isSome) = could
  rcases s.oneLeg false o d with _ | g <;> rcases s.twoLegs false o d with _ | ⟨g', m⟩ <;> simp

theorem routeOn_eq_oneLeg_iff (g : Nat) :
    s.routeOn o d = .oneLeg g ↔ LowestCarrier s g o d := by
  rw [← oneLeg_eq_lowestCarrier, State.routeOn]
  rcases s.oneLeg false o d with _ | g' <;> simp
  split <;> simp

theorem routeOn_eq_noService_iff :
    s.routeOn o d = .noService ↔ (∀ h, ¬ Carries s h o d) ∧ ∃ h, Joins s h o d := by
  rw [← usable_false, ← oneLeg_eq_none_iff, ← usable_true, ← oneLeg_isSome_iff, State.routeOn]
  rcases s.oneLeg false o d with _ | g' <;> simp [Option.isSome_iff_ne_none]

theorem routeOn_eq_noRoute_iff :
    s.routeOn o d = .noRoute ↔ (∀ h, ¬ Carries s h o d) ∧ ¬ ∃ h, Joins s h o d := by
  rw [← usable_false, ← oneLeg_eq_none_iff, ← usable_true, ← oneLeg_isSome_iff, State.routeOn]
  rcases s.oneLeg false o d with _ | g' <;> simp

/-- A FIXED terminal's bound group alone is tested (R17). -/
theorem routeFixed_eq (g : Nat) :
    s.routeFixed g o d =
      if ¬ (s.serves g o = true ∧ s.serves g d = true) then .otherBank
      else if (s.group g).service ≠ .inService then .noService else .oneLeg g := by
  by_cases h : s.serves g o = true ∧ s.serves g d = true
  · simp [State.routeFixed, State.inService, h]
  · rw [if_pos h, State.routeFixed, if_pos (by simpa using not_and_or.1 h)]

end

/-- A group that carries both legs of a route over a lobby carries the whole of it. -/
theorem Carries.trans {s : State} {g o l d : Nat} (h1 : Carries s g o l) (h2 : Carries s g l d) :
    Carries s g o d := by
  obtain ⟨⟨hlow, hhigh, ho, -⟩, hservice⟩ := h1
  obtain ⟨⟨-, -, -, hd⟩, -⟩ := h2
  exact ⟨⟨hlow, hhigh, ho, hd⟩, hservice⟩

/-- Settles O17: each result of the searches is read off as an equivalence. The legs of a two-leg route are by
different groups, since one group for both would have been the one-leg route (`Carries.trans`). -/
theorem routesTakeTheLowestGroup : Obligations.RoutesTakeTheLowestGroup := by
  intro s o d
  refine ⟨?_, routeNew_eq_twoLegs_iff s o d, ?_, ?_, ?_, routeOn_eq_noService_iff s o d,
    routeOn_eq_noRoute_iff s o d, fun g _ => routeFixed_eq s o d g⟩
  · rintro (_ | _) g
    · exact routeNew_eq_oneLeg_iff s o d g
    · exact routeOn_eq_oneLeg_iff s o d g
  · rintro g l hroute h hsecond rfl
    obtain ⟨hnone, slot, -, hfirst, -⟩ := (routeNew_eq_twoLegs_iff s o d h l).1 hroute
    exact hnone h (hfirst.1.trans hsecond)
  · exact (routeNew_eq_noService_iff s o d).trans and_assoc
  · refine (routeNew_eq_noRoute_iff s o d).trans ?_
    rw [CouldServe, not_or]
    exact and_assoc

end Sys2Proof.Safety
end

section
/-! SUPPORT. What serving leaves when a request is refused or answered, in the statements' terms. -/

namespace Sys2Proof.Safety

open Sys2Proof.Machine

/-- A refused request leaves its response alone. -/
theorem Asked.serve_refuse {s : State} {p : List Byte} {rest : List (List Byte)} {op need : Nat}
    (h : Asked s p rest op need) {mine : List Byte → Bool} (hm : mine p = true)
    {handle : List Byte → State → Reply} {c : Code}
    (hh : handle p { s with requests := rest } = ({ s with requests := rest } : State).refuse c) :
    s.serve mine handle = answered s p rest c [] := by
  rw [h.serve hm, hh]; rfl

/-- A request that is carried out leaves its effect and its response. -/
theorem Asked.serve_reply {s : State} {p : List Byte} {rest : List (List Byte)} {op need : Nat}
    (h : Asked s p rest op need) {mine : List Byte → Bool} (hm : mine p = true)
    {handle : List Byte → State → Reply} {t : State} {c : Code} {data : List Byte}
    (hh : handle p { s with requests := rest } = ⟨t, c, data⟩) :
    s.serve mine handle =
      { t with responses := t.responses ++ [⟨p.getD 0 0, p.getD 1 0, c, data⟩] } := by
  rw [h.serve hm, hh]

/-- A group number is one of the six, or it is refused. -/
theorem groupGood_iff (g : Nat) : groupGood g = true ↔ 1 ≤ g ∧ g ≤ 6 := by
  simp [groupGood]

theorem groupGood_eq_false {g : Nat} (h : g = 0 ∨ 6 < g) : groupGood g = false := by
  rw [← Bool.not_eq_true, groupGood_iff]; omega

end Sys2Proof.Safety
end

section
/-! SUPPORT. Trips that end without an assignment: what becomes of the terminals that await them and in which order they are answered (R59, R105, R121). -/

namespace Sys2Proof.Safety

open Sys2Proof.Machine

/-- From `s` to `u` the terminal that awaits the trip, if any, has become IDLE, and every other stays. -/
def Idled (s u : State) (x : Trip) : Prop :=
  ∀ v, u.terminal v = if v = x.terminal ∧ Awaits s x then
    { s.terminal v with service := .idle } else s.terminal v

/-- Afterwards a trip is awaited when it was and its terminal has not become IDLE. -/
theorem Idled.awaits_iff {s u : State} {x : Trip} (h : Idled s u x) (y : Trip) :
    Awaits u y ↔ Awaits s y ∧ ¬ (y.terminal = x.terminal ∧ Awaits s x) := by
  rw [Awaits, h y.terminal]
  split <;> simp [*]

/-- Ending the await of a trip idles its terminal and no other. -/
theorem idled_endAwait (s : State) (x : Trip) (a : Answer) (ha : a.verdict ≠ .admitted) :
    Idled s (s.endAwait x a) x := by
  intro v
  by_cases hx : Awaits s x
  · rw [s.endAwait_some x a hx, State.placeAnswer_other _ a ha]
    change (s.setTerminal x.terminal _).terminal v = _
    by_cases hv : v = x.terminal
    · subst hv
      rw [State.setTerminal_terminal_same, if_pos ⟨rfl, hx⟩]
    · rw [State.setTerminal_terminal_other _ _ (Ne.symm hv), if_neg (fun h => hv h.1)]
  · rw [s.endAwait_none x a hx, if_neg (fun h => hx h.2)]

/-- The terminal that awaits the trip is answered. -/
theorem endAwait_answers (s : State) (x : Trip) (a : Answer) (ha : a.verdict ≠ .admitted) :
    (s.endAwait x a).answers = s.answers ++ if Awaits s x then [a] else [] := by
  by_cases hx : Awaits s x
  · rw [s.endAwait_some x a hx, State.placeAnswer_other _ a ha, if_pos hx]; rfl
  · rw [s.endAwait_none x a hx, if_neg hx, List.append_nil]

/-! ## One trip and then the others

`others` are the trips that are still looked at after `x`: `left` without copies of `x`, if any. -/

section
variable {s u t : State} {x : Trip} {left others : List Trip}

theorem AwaitingBecomeIdle.cons (hu : Idled s u x) (hsub : others.Sublist left)
    (hleft : ∀ y ∈ left, y ∈ others ∨ y = x) (h : AwaitingBecomeIdle u t others) :
    AwaitingBecomeIdle s t (x :: left) := by
  obtain ⟨hidle, hstay⟩ := h
  constructor
  · intro z hz haw
    by_cases hzx : z.terminal = x.terminal ∧ Awaits s x
    · rw [hstay z.terminal, hu z.terminal, if_pos hzx]
      intro y _ hyz hy
      exact ((hu.awaits_iff y).1 hy).2 ⟨hyz.trans hzx.1, hzx.2⟩
    · have hne : z ≠ x := by rintro rfl; exact hzx ⟨rfl, haw⟩
      have hz' : z ∈ others := by
        rcases hleft z ((List.mem_cons.1 hz).resolve_left hne) with h | h
        · exact h
        · exact absurd h hne
      rw [hidle z hz' ((hu.awaits_iff z).2 ⟨haw, hzx⟩), hu z.terminal, if_neg hzx]
  · intro v hv
    rw [hstay v, hu v, if_neg]
    · rintro ⟨rfl, hx⟩
      exact hv x List.mem_cons_self rfl hx
    · intro y hy hyv haw
      exact hv y (List.mem_cons_of_mem x (hsub.subset hy)) hyv ((hu.awaits_iff y).1 haw).1

theorem AnswersInOrder.cons {answer : Trip → Answer} {more : List Answer}
    (hanswer : ∀ y, (answer y).terminal = y.terminal) (hu : Idled s u x)
    (hsub : others.Sublist left) (hleft : ∀ y ∈ left, y ∈ others ∨ y = x)
    (h : AnswersInOrder u others answer more) :
    AnswersInOrder s (x :: left) answer ((if Awaits s x then [answer x] else []) ++ more) := by
  obtain ⟨horder, honce, hall⟩ := h
  have hawaited : (others.filter (fun y => Awaits u y)).Sublist
      (left.filter (fun y => Awaits s y)) := by
    refine (List.monotone_filter_right others fun y hy => ?_).trans (hsub.filter _)
    exact decide_eq_true ((hu.awaits_iff y).1 (of_decide_eq_true hy)).1
  have hrest := horder.trans (hawaited.map answer)
  have hothers : ∀ y ∈ left, Awaits s y → ¬ (y.terminal = x.terminal ∧ Awaits s x) →
      ∃ a ∈ more, a.terminal = y.terminal := by
    intro y hy haw hyx
    rcases hleft y hy with hy | rfl
    · exact hall y hy ((hu.awaits_iff y).2 ⟨haw, hyx⟩)
    · exact absurd ⟨rfl, haw⟩ hyx
  by_cases hx : Awaits s x
  · simp only [if_pos hx, List.singleton_append]
    refine ⟨?_, ?_, ?_⟩
    · rw [List.filter_cons_of_pos (by simpa using hx), List.map_cons]
      exact hrest.cons_cons _
    · rw [List.map_cons, List.nodup_cons]
      refine ⟨fun hmem => ?_, honce⟩
      obtain ⟨a, ha, hax⟩ := List.mem_map.1 hmem
      obtain ⟨y, hy, rfl⟩ := List.mem_map.1 (horder.subset ha)
      have haw : Awaits u y := of_decide_eq_true (List.mem_filter.1 hy).2
      rw [hanswer, hanswer] at hax
      exact ((hu.awaits_iff y).1 haw).2 ⟨hax, hx⟩
    · intro y hy haw
      by_cases hyx : y.terminal = x.terminal
      · exact ⟨answer x, List.mem_cons_self, (hanswer x).trans hyx.symm⟩
      · have hne : y ≠ x := fun h => hyx (congrArg Trip.terminal h)
        obtain ⟨a, ha, hay⟩ := hothers y ((List.mem_cons.1 hy).resolve_left hne) haw
          (fun h => hyx h.1)
        exact ⟨a, List.mem_cons_of_mem _ ha, hay⟩
  · simp only [if_neg hx, List.nil_append]
    refine ⟨?_, honce, ?_⟩
    · rwa [List.filter_cons_of_neg (by simpa using hx)]
    · intro y hy haw
      have hne : y ≠ x := by rintro rfl; exact hx haw
      exact hothers y ((List.mem_cons.1 hy).resolve_left hne) haw (fun h => hx h.2)

end

end Sys2Proof.Safety
end

section
/-! SUPPORT. The withdrawal of a group's queued calls, call by call, and the proof of O40 (R11, R12, R141). -/

namespace Sys2Proof.Safety

open Sys2Proof.Machine

/-! ## One trip fails (R121) -/

theorem tripOf_number {s : State} {n : Nat} {x : Trip} (h : s.tripOf n = some x) :
    x.number = n := by
  simpa using List.find?_some h

/-- A number without a record changes nothing. -/
theorem failTrip_of_none {s : State} {n : Nat} (r : Reason) (h : s.tripOf n = none) :
    s.failTrip n r = s := by
  rw [State.failTrip, h]

theorem idled_failTrip {s : State} {n : Nat} {x : Trip} (r : Reason) (h : s.tripOf n = some x) :
    Idled s (s.failTrip n r) x := by
  rw [State.failTrip, h]
  exact idled_endAwait (s.removeTrip n) x _ (by simp [Trip.answer])

theorem failTrip_answers {s : State} {n : Nat} {x : Trip} (r : Reason)
    (h : s.tripOf n = some x) : (s.failTrip n r).answers =
      s.answers ++ if Awaits s x then [x.answer .retry (some r) none none] else [] := by
  rw [State.failTrip, h]
  exact endAwait_answers (s.removeTrip n) x _ (by simp [Trip.answer])

/-- A failed trip is found no more, and the others as before. -/
theorem failTrip_tripOf (s : State) (n m : Nat) (r : Reason) :
    (s.failTrip n r).tripOf m = if m = n then none else s.tripOf m := by
  rw [State.tripOf, State.failTrip_trips, List.find?_filter]
  split_ifs with h
  · rw [List.find?_eq_none]
    intro y _
    simp [h]
  · refine congrArg (fun test => s.trips.find? test) (funext fun y => ?_)
    by_cases hy : y.number = m <;> simp [hy, h]

/-- Of the trips of a queue's calls those of other numbers are left. -/
theorem failTrip_tripsOfCalls (s : State) (n : Nat) (r : Reason) (calls : List Call) :
    tripsOfCalls (s.failTrip n r) calls =
      (tripsOfCalls s calls).filter (fun y => y.number ≠ n) := by
  rw [tripsOfCalls, tripsOfCalls, List.filter_filterMap]
  refine List.filterMap_congr fun c _ => ?_
  rw [failTrip_tripOf]
  cases hx : s.tripOf c.trip with
  | none => simp
  | some x => by_cases hc : c.trip = n <;> simp [Option.filter, tripOf_number hx, hc]

/-! ## The trips of a list of calls fail, one after another (R141) -/

/-- The trips of the calls fail NO_SERVICE in the order of the calls. -/
def failCalls (s : State) (calls : List Call) : State :=
  calls.foldl (fun s c => s.failTrip c.trip .noService) s

/-- A withdrawal empties the queue and fails the trips of its calls. -/
theorem withdrawQueue_eq (s : State) (g : Nat) :
    s.withdrawQueue g = failCalls (s.setGroup g { s.group g with queue := [] }) (s.group g).queue :=
  rfl

/-- The terminals that await the calls' trips become IDLE and are answered RETRY NO_SERVICE, in the order of
the calls. -/
theorem failCalls_ends_awaits (calls : List Call) (s : State) :
    AwaitingBecomeIdle s (failCalls s calls) (tripsOfCalls s calls) ∧
      ∃ more, (failCalls s calls).answers = s.answers ++ more ∧
        AnswersInOrder s (tripsOfCalls s calls) retryNoService more := by
  induction calls generalizing s with
  | nil =>
    refine ⟨⟨nofun, fun _ _ => rfl⟩, [], (List.append_nil _).symm, ?_⟩
    exact ⟨List.Sublist.refl _, List.nodup_nil, nofun⟩
  | cons c calls ih =>
    change AwaitingBecomeIdle s (failCalls (s.failTrip c.trip .noService) calls) _ ∧ ∃ more,
      (failCalls (s.failTrip c.trip .noService) calls).answers = _ ∧ _
    cases hx : s.tripOf c.trip with
    | none =>
      rw [failTrip_of_none _ hx,
        show tripsOfCalls s (c :: calls) = tripsOfCalls s calls from List.filterMap_cons_none hx]
      exact ih s
    | some x =>
      rw [show tripsOfCalls s (c :: calls) = x :: tripsOfCalls s calls from
        List.filterMap_cons_some hx]
      obtain ⟨hidle, more, hmore, horder⟩ := ih (s.failTrip c.trip .noService)
      rw [failTrip_tripsOfCalls] at hidle horder
      have hu := idled_failTrip .noService hx
      have hsub : ((tripsOfCalls s calls).filter (fun y => y.number ≠ c.trip)).Sublist
          (tripsOfCalls s calls) := List.filter_sublist
      have hleft : ∀ y ∈ tripsOfCalls s calls,
          y ∈ (tripsOfCalls s calls).filter (fun y => y.number ≠ c.trip) ∨ y = x := by
        intro y hy
        by_cases hn : y.number = c.trip
        · obtain ⟨q, -, hq⟩ := List.mem_filterMap.1 hy
          rw [← tripOf_number hq, hn, hx] at hq
          exact .inr (Option.some.inj hq).symm
        · exact .inl (List.mem_filter.2 ⟨hy, by simpa using hn⟩)
      refine ⟨.cons hu hsub hleft hidle, _, ?_, .cons (fun _ => rfl) hu hsub hleft horder⟩
      rw [hmore, failTrip_answers _ hx, List.append_assoc]
      rfl

/-! ## HOLD_GROUP and RESUME_GROUP (R11, R12) -/

section
variable {s : State} {g : Nat}

/-- A hold of a group that is not HELD marks it HELD and withdraws its queue. -/
theorem holdGroup_eq (h : (s.group g).service ≠ .held) :
    s.holdGroup g = (s.setGroup g { s.group g with service := .held }).withdrawQueue g := by
  rw [State.holdGroup, if_neg h]

/-- A hold touches the groups, the trips, the answers and the terminals. -/
theorem holdGroup_frame (h : (s.group g).service ≠ .held) :
    s.holdGroup g = { s with
      groups := (s.holdGroup g).groups, trips := (s.holdGroup g).trips
      answers := (s.holdGroup g).answers, terminals := (s.holdGroup g).terminals } := by
  rw [holdGroup_eq h, State.withdrawQueue_frame]; rfl

/-- The trips of the queued calls leave. -/
theorem holdGroup_trips (h : (s.group g).service ≠ .held) :
    (s.holdGroup g).trips =
      s.trips.filter (fun y => ∀ q ∈ (s.group g).queue, y.number ≠ q.trip) := by
  rw [holdGroup_eq h, State.withdrawQueue_trips, State.setGroup_group_same]
  refine List.filter_congr fun y _ => ?_
  rw [Bool.eq_iff_iff]
  simp

/-- The group is HELD with an empty queue, and every other stays. -/
theorem holdGroup_group (h : (s.group g).service ≠ .held) (j : Nat) :
    (s.holdGroup g).group j =
      if j = g then { s.group g with service := .held, queue := [] } else s.group j := by
  rw [holdGroup_eq h]
  split_ifs with hj
  · rw [hj, State.withdrawQueue_group, State.setGroup_group_same]
  · rw [State.withdrawQueue_frame]
    exact (State.setGroup_group_other _ _ (Ne.symm hj)).trans
      (State.setGroup_group_other _ _ (Ne.symm hj))

/-- The terminals that await the trips of the queued calls become IDLE and are answered in the order of the
queue. -/
theorem holdGroup_ends_awaits (h : (s.group g).service ≠ .held) :
    AwaitingBecomeIdle s (s.holdGroup g) (tripsOfCalls s (s.group g).queue) ∧
      ∃ more, (s.holdGroup g).answers = s.answers ++ more ∧
        AnswersInOrder s (tripsOfCalls s (s.group g).queue) retryNoService more := by
  rw [holdGroup_eq h, withdrawQueue_eq, State.setGroup_group_same]
  exact failCalls_ends_awaits (s.group g).queue ((s.setGroup g _).setGroup g _)

end

/-- A hold or resume of a number that is no group's is refused. -/
theorem checkGroup_refuse (s : State) {g : Nat} (h : g = 0 ∨ 6 < g) (k : Reply) :
    s.checkIndex (groupGood g) k = s.refuse .badIndex := by
  rw [groupGood_eq_false h]; rfl

theorem checkGroup_pass (s : State) {g : Nat} (h1 : 1 ≤ g) (h6 : g ≤ 6) (k : Reply) :
    s.checkIndex (groupGood g) k = k :=
  s.checkIndex_pass _ k ((groupGood_iff g).2 ⟨h1, h6⟩)

section
variable {s : State} {p : List Byte} {rest : List (List Byte)}

/-- The form that both commands have: the group named is checked and then written. -/
def groupCommand (effect : State → Nat → State) (p : List Byte) (s : State) : Reply :=
  s.checkCommand p 7 (s.checkIndex (groupGood (named p)) (effect s (named p)).accept)

theorem exec_holdGroup (s : State) :
    exec .holdGroup s = .next (s.serve (isOp 27) (groupCommand State.holdGroup)) := rfl

theorem exec_resumeGroup (s : State) :
    exec .resumeGroup s = .next (s.serve (isOp 28) (groupCommand State.resumeGroup)) := rfl

theorem Commanded.serve_group_refused {op : Nat} (h : Commanded s p rest op 7)
    (effect : State → Nat → State) (hg : numAt p 6 1 = 0 ∨ 6 < numAt p 6 1) :
    s.serve (isOp op) (groupCommand effect) = answered s p rest .badIndex [] :=
  h.asked.serve_refuse h.asked.isOp ((h.checkCommand _).trans (checkGroup_refuse _ hg _))

theorem Commanded.serve_group_done {op : Nat} (h : Commanded s p rest op 7)
    (effect : State → Nat → State) (h1 : 1 ≤ numAt p 6 1) (h6 : numAt p 6 1 ≤ 6) {t : State}
    (ht : effect { s with requests := rest } (numAt p 6 1) = t) :
    s.serve (isOp op) (groupCommand effect) =
      { t with responses := t.responses ++ [⟨p.getD 0 0, p.getD 1 0, .ok, []⟩] } :=
  h.asked.serve_reply h.asked.isOp
    ((h.checkCommand _).trans ((checkGroup_pass _ h1 h6 _).trans (congrArg State.accept ht)))

end

/-- Settles O40: the checks pass or refuse, and `holdGroup_ends_awaits` says whom the withdrawal answers. -/
theorem holdAndResumeAGroup : Obligations.HoldAndResumeAGroup := by
  intro s p rest g v a
  simp only [exec_holdGroup, exec_resumeGroup, Host.Outcome.next.injEq]
  refine ⟨fun h => ⟨h.serve_group_refused _, fun h1 h6 hv => ?_, fun h1 h6 hv => ?_⟩,
    fun h => ⟨h.serve_group_refused _, fun h1 h6 hv => ?_, fun h1 h6 hv => ?_⟩⟩
  · exact h.serve_group_done State.holdGroup h1 h6 (if_pos hv)
  · have hr : (({ s with requests := rest } : State).group g).service ≠ .held := hv
    obtain ⟨hidle, horder⟩ := holdGroup_ends_awaits hr
    have hframe := holdGroup_frame hr
    rw [holdGroup_trips hr] at hframe
    refine ⟨_, h.serve_group_done State.holdGroup h1 h6 rfl, ?_, holdGroup_group hr, hidle, horder⟩
    rw [hframe]
    rfl
  · exact h.serve_group_done State.resumeGroup h1 h6 (if_pos hv)
  · exact h.serve_group_done State.resumeGroup h1 h6 (if_neg hv)

end Sys2Proof.Safety
end

section
/-! SUPPORT. WRITE and ERASE of the Group Table and the Sky Lobby List, and the proof of O46 (R6 to R8, R13). -/

namespace Sys2Proof.Safety

open Sys2Proof.Machine

/-! ## Checks that refuse (R175) -/

theorem checkField_refuse (s : State) {ok : Bool} (h : ¬ ok = true) (k : Reply) :
    s.checkField ok k = s.refuse .badField :=
  if_neg h

theorem checkIndex_refuse (s : State) {ok : Bool} (h : ¬ ok = true) (k : Reply) :
    s.checkIndex ok k = s.refuse .badIndex :=
  if_neg h

/-! ## Reads after a write of the tables -/

theorem setGroupConfig_groupConfig (s : State) (g h : Nat) (c : GroupConfig) :
    (s.setGroupConfig g c).groupConfig h = if h = g then c else s.groupConfig h :=
  (Store.get_set ({} : GroupConfig) s.tables.groups g h c).trans (if_congr eq_comm rfl rfl)

theorem setGroup_group (s : State) (g h : Nat) (v : GroupState) :
    (s.setGroup g v).group h = if h = g then v else s.group h :=
  (Store.get_set ({} : GroupState) s.groups g h v).trans (if_congr eq_comm rfl rfl)

theorem setSkyLobby_get (s : State) (i j : Nat) (v : Option Nat) :
    (s.setSkyLobby i v).tables.skyLobbies.get none j =
      if j = i then v else s.tables.skyLobbies.get none j :=
  (Store.get_set none s.tables.skyLobbies i j v).trans (if_congr eq_comm rfl rfl)

/-! ## The Group Table (R6, R8) -/

/-- A station that a group may have: 1 to 126, not the part's own or the head-end's, and no other group's
(R6). -/
theorem stationGood_iff (s : State) (i station : Nat) :
    s.stationGood i station = true ↔
      1 ≤ station ∧ station ≤ 126 ∧ station ≠ s.tables.settings.ownStation ∧
        station ≠ s.tables.settings.headEnd ∧
        ∀ h, 1 ≤ h → h ≤ 6 → h ≠ i → (s.groupConfig h).station ≠ some station := by
  have htaken : (!s.stationTaken i station) = true ↔
      ∀ h, 1 ≤ h → h ≤ 6 → h ≠ i → (s.groupConfig h).station ≠ some station := by
    simp [State.stationTaken, mem_groupNumbers]
  rw [← htaken]
  simp only [State.stationGood, Bool.and_eq_true, decide_eq_true_eq, and_assoc]
  rfl

/-- The response is OK exactly when limit and timeout are both within their ranges, and OK_CLAMPED otherwise
(R6, R176). -/
theorem writeGroup_code (limit timeout : Nat) :
    (if 1 ≤ limit ∧ limit ≤ 16 ∧ 1 ≤ timeout ∧ timeout ≤ 32 then Code.ok else .okClamped) =
      if clamps 1 16 limit || clamps 1 32 timeout then .okClamped else .ok := by
  have hclamps : (clamps 1 16 limit || clamps 1 32 timeout) = true ↔
      ¬ (1 ≤ limit ∧ limit ≤ 16 ∧ 1 ≤ timeout ∧ timeout ≤ 32) := by
    simp only [clamps, Bool.or_eq_true, decide_eq_true_eq]
    omega
  rw [if_congr hclamps rfl rfl, ite_not]

/-- A group has calls in hand or a settled trip (R8). -/
theorem groupBusy_iff (s : State) (g : Nat) :
    s.groupBusy g = true ↔ (s.group g).queue ≠ [] ∨ (s.group g).outstanding ≠ [] ∨
      ∃ x ∈ s.trips, (x.state = .assigned ∨ x.state = .awaitingTransfer) ∧ x.group = g := by
  simp [State.groupBusy, Trip.settled, or_assoc]

/-- An ERASE keeps the group's calls, and a group that is not busy has none, so that all it holds is at the
reset contents (R8). -/
theorem clearGroup_group {s : State} {g : Nat} (h : ¬ s.groupBusy g = true) (j : Nat) :
    (s.clearGroup g).group j = if j = g then ⟨.inService, 0, [], []⟩ else s.group j := by
  rw [groupBusy_iff, not_or, not_or, not_not, not_not] at h
  obtain ⟨hqueue, houtstanding, -⟩ := h
  refine (setGroup_group _ g j _).trans (if_congr Iff.rfl ?_ rfl)
  rw [← hqueue, ← houtstanding]

/-! ## Serving a WRITE or an ERASE -/

section
variable {s : State} {p : List Byte} {rest : List (List Byte)} {op table need : Nat} {c : Instr}
  {handle : List Byte → State → Reply} {k : Reply}

/-- A WRITE or ERASE that its table's own checks refuse. -/
theorem Changing.refused (h : Changing s p rest op table need)
    (hexec : exec c s = .next (s.serve (Machine.isTableOp op table) handle))
    (hh : handle p { s with requests := rest } =
      ({ s with requests := rest } : State).checkChange p need k) {code : Code}
    (hk : k = ({ s with requests := rest } : State).refuse code) :
    exec c s = .next (answered s p rest code []) :=
  hexec.trans (congrArg _
    (h.commanded.asked.serve_refuse h.isTableOp (hh.trans ((h.checkChange k).trans hk))))

/-- A WRITE or ERASE that passes its table's own checks. -/
theorem Changing.done (h : Changing s p rest op table need)
    (hexec : exec c s = .next (s.serve (Machine.isTableOp op table) handle))
    (hh : handle p { s with requests := rest } =
      ({ s with requests := rest } : State).checkChange p need k)
    {t : State} {code : Code} {data : List Byte} (hk : k = ⟨t, code, data⟩) :
    exec c s = .next
      { t with responses := t.responses ++ [⟨p.getD 0 0, p.getD 1 0, code, data⟩] } :=
  hexec.trans (congrArg _
    (h.commanded.asked.serve_reply h.isTableOp (hh.trans ((h.checkChange k).trans hk))))

end

theorem exec_writeGroup (s : State) :
    exec .writeGroup s = .next (s.serve (isTableOp 3 6) handleWriteGroup) := rfl

theorem exec_eraseGroup (s : State) :
    exec .eraseGroup s = .next (s.serve (isTableOp 4 6) handleEraseGroup) := rfl

theorem exec_writeSkyLobby (s : State) :
    exec .writeSkyLobby s = .next (s.serve (isTableOp 3 7) handleWriteSkyLobby) := rfl

theorem exec_eraseSkyLobby (s : State) :
    exec .eraseSkyLobby s = .next (s.serve (isTableOp 4 7) handleEraseSkyLobby) := rfl

/-- Settles O46: each command's checks pass or refuse by the lemmas above, and what it writes is read back. -/
theorem groupsAndLobbiesAreWritten : Obligations.GroupsAndLobbiesAreWritten := by
  intro s p rest i refused
  refine ⟨fun h => ?_, fun h => ?_, fun h => ?_, fun h => ?_⟩
  · intro station limit timeout g good
    have hgood := stationGood_iff { s with requests := rest } i station
    refine ⟨fun hi => ?_, fun h1 h6 hbad => ?_, fun h1 h6 hok => ?_⟩
    · exact h.refused (exec_writeGroup s) rfl (checkGroup_refuse _ hi _)
    · exact h.refused (exec_writeGroup s) rfl ((checkGroup_pass _ h1 h6 _).trans
        (checkField_refuse _ (mt hgood.1 hbad) _))
    · refine ⟨_, h.done (exec_writeGroup s) rfl ((checkGroup_pass _ h1 h6 _).trans
          (State.checkField_pass _ _ _ (hgood.2 hok))),
        fun j => setGroupConfig_groupConfig { s with requests := rest } i j (groupAt p), ?_⟩
      rw [writeGroup_code limit timeout]
      rfl
  · intro busy
    have hbusy := groupBusy_iff { s with requests := rest } i
    refine ⟨fun hi => ?_, fun h1 h6 hb => ?_, fun h1 h6 hfree => ?_⟩
    · exact h.refused (exec_eraseGroup s) rfl (checkGroup_refuse _ hi _)
    · exact h.refused (exec_eraseGroup s) rfl
        ((checkGroup_pass _ h1 h6 _).trans (if_pos (hbusy.2 hb)))
    · have hnot := mt hbusy.1 hfree
      exact ⟨_, h.done (exec_eraseGroup s) rfl ((checkGroup_pass _ h1 h6 _).trans (if_neg hnot)),
        fun j => setGroupConfig_groupConfig { s with requests := rest } i j {},
        clearGroup_group hnot, rfl⟩
  · refine ⟨fun hi => ?_, fun hi hl => ?_, fun hi hl => ?_⟩
    · exact h.refused (exec_writeSkyLobby s) rfl
        (checkIndex_refuse _ (mt of_decide_eq_true (not_le.2 hi)) _)
    · exact h.refused (exec_writeSkyLobby s) rfl
        ((State.checkIndex_pass _ _ _ (decide_eq_true hi)).trans
          (checkField_refuse _ (mt of_decide_eq_true (not_le.2 hl)) _))
    · exact ⟨_, h.done (exec_writeSkyLobby s) rfl
          ((State.checkIndex_pass _ _ _ (decide_eq_true hi)).trans
            (State.checkField_pass _ _ _ (decide_eq_true hl))),
        fun j => setSkyLobby_get { s with requests := rest } i j _, rfl⟩
  · refine ⟨fun hi => ?_, fun hi => ?_⟩
    · exact h.refused (exec_eraseSkyLobby s) rfl
        (checkIndex_refuse _ (mt of_decide_eq_true (not_le.2 hi)) _)
    · exact ⟨_, h.done (exec_eraseSkyLobby s) rfl
          (State.checkIndex_pass _ _ _ (decide_eq_true hi)),
        fun j => setSkyLobby_get { s with requests := rest } i j none, rfl⟩

end Sys2Proof.Safety
end

section
/-! SUPPORT. How many records a `Store` in canonical form lists, and when it lists one. -/

namespace Sys2Proof.Machine

variable {α : Type}

/-- Below an index that all entries of a table exceed nothing is listed. -/
theorem Store.get_of_lt_all (d : α) {t : Store α} {k i : Nat} (h : ∀ e ∈ t, k < e.1) (hi : i ≤ k) :
    Store.get d t i = d :=
  Store.get_of_not_listed d t i fun e he => (lt_of_le_of_lt hi (h e he)).ne'

section
variable [DecidableEq α]

/-- In the canonical form the listed records are those read as other than the reset contents. -/
theorem Store.mem_iff_get (d : α) {t : Store α} (h : Store.wf d t = true) (i : Nat) (v : α) :
    (i, v) ∈ t ↔ v ≠ d ∧ Store.get d t i = v := by
  constructor
  · intro hm
    refine ⟨?_, Store.get_of_mem d t h hm⟩
    induction t with
    | nil => simp at hm
    | cons e t ih =>
      obtain ⟨hne, -, ht⟩ := (Store.wf_cons d e.1 e.2 t).1 h
      rcases List.mem_cons.1 hm with rfl | hm
      · exact hne
      · exact ih ht hm
  · rintro ⟨hne, rfl⟩
    exact Store.mem_of_get_ne d t i hne

/-- In the canonical form no index is listed twice. -/
theorem Store.nodup_indexes (d : α) {t : Store α} (h : Store.wf d t = true) :
    (t.map Prod.fst).Nodup := by
  induction t with
  | nil => exact List.nodup_nil
  | cons e t ih =>
    obtain ⟨-, hk, ht⟩ := (Store.wf_cons d e.1 e.2 t).1 h
    refine List.nodup_cons.2 ⟨fun hm => ?_, ih ht⟩
    obtain ⟨x, hx, hxe⟩ := List.mem_map.1 hm
    exact (hk x hx).ne' hxe

/-- Writing a record at an index that lists one keeps the number of entries, any other index adds one. -/
theorem Store.length_insert (d : α) {t : Store α} (h : Store.wf d t = true) (i : Nat) (v : α) :
    (Store.insert t i v).length = if Store.get d t i = d then t.length + 1 else t.length := by
  induction t with
  | nil => simp [Store.insert]
  | cons e t ih =>
    obtain ⟨k, w⟩ := e
    obtain ⟨hw, hk, ht⟩ := (Store.wf_cons d k w t).1 h
    rw [Store.insert, Store.get_cons]
    rcases lt_trichotomy i k with hlt | rfl | hgt
    · rw [if_pos hlt, if_neg hlt.ne', Store.get_of_lt_all d hk hlt.le, if_pos rfl]
      rfl
    · rw [if_neg (lt_irrefl i), if_pos rfl, if_pos rfl, if_neg hw]
      rfl
    · rw [if_neg hgt.not_gt, if_neg hgt.ne', if_neg hgt.ne, List.length_cons, ih ht]
      split_ifs <;> rfl

/-- Unlisting an index that lists a record takes one entry away. -/
theorem Store.length_remove (d : α) {t : Store α} (h : Store.wf d t = true) {i : Nat}
    (hi : Store.get d t i ≠ d) : (Store.remove t i).length = t.length - 1 := by
  have hnodup : t.Nodup := (Store.nodup_indexes d h).of_map _
  have hone : Store.remove t i = t.erase (i, Store.get d t i) := by
    rw [hnodup.erase_eq_filter]
    refine List.filter_congr fun e he => ?_
    obtain ⟨k, v⟩ := e
    have hv := ((Store.mem_iff_get d h k v).1 he).2
    by_cases hki : k = i
    · subst hki; simp [hv]
    · simp [hki]
  rw [hone, List.length_erase_of_mem (Store.mem_of_get_ne d t i hi)]

/-- A table whose indexes lie below `n` lists at most `n` records. -/
theorem Store.length_le (d : α) {t : Store α} (h : Store.wf d t = true) {n : Nat}
    (hn : ∀ e ∈ t, e.1 < n) : t.length ≤ n := by
  have hsub : t.map Prod.fst ⊆ List.range n := by
    intro i hi
    obtain ⟨e, he, rfl⟩ := List.mem_map.1 hi
    exact List.mem_range.2 (hn e he)
  simpa using ((Store.nodup_indexes d h).subperm hsub).length_le

end

end Sys2Proof.Machine
end

section
/-! SUPPORT. The lookup of a key, and the proof of O44 (R18, R20, R21). -/

namespace Sys2Proof.Safety

open Sys2Proof.Machine

/-! ## The ways of a bucket (R18, R20) -/

theorem bucketOf_le (k : BadgeKey) : bucketOf k ≤ 4095 :=
  Nat.le_of_lt_succ (Nat.mod_lt _ (by decide))

/-- The four ways of a bucket are the indexes that a division by 4 takes to it. -/
theorem mem_waysOf (b w : Nat) : w ∈ waysOf b ↔ w / 4 = b := by
  change w ∈ List.range' (4 * b) 4 ↔ _
  rw [List.mem_range'_1]
  omega

/-! ## What a lookup finds (R21) -/

section
variable {s : State} {k : BadgeKey} {w : Nat}

theorem wayHolds_iff : s.wayHolds k w = true ↔ ∃ e, s.way w = some e ∧ e.key = k := by
  unfold State.wayHolds
  cases s.way w with
  | none => simp
  | some e => simp

/-- The way a lookup yields is one of the key's bucket and holds the key. -/
theorem lookupWay_holds (h : s.lookupWay k = some w) :
    w / 4 = bucketOf k ∧ ∃ e, s.way w = some e ∧ e.key = k :=
  ⟨(mem_waysOf _ w).1 (List.mem_of_find?_eq_some h), wayHolds_iff.1 (List.find?_some h)⟩

/-- A lookup fails exactly when no way of the key's bucket holds the key. -/
theorem lookupWay_eq_none_iff : s.lookupWay k = none ↔
    ∀ w e, w / 4 = bucketOf k → s.way w = some e → e.key ≠ k := by
  rw [State.lookupWay, List.find?_eq_none]
  simp only [mem_waysOf, wayHolds_iff, not_exists, not_and]
  exact forall_congr' fun w => forall_comm

/-- A lookup yields the entry in the way it finds. -/
theorem lookup_eq_some_iff {e : BadgeEntry} :
    s.lookup k = some e ↔ ∃ w, s.lookupWay k = some w ∧ s.way w = some e :=
  Option.bind_eq_some_iff

theorem lookup_eq_none_iff : s.lookup k = none ↔ s.lookupWay k = none := by
  constructor
  · intro h
    refine Option.eq_none_iff_forall_ne_some.2 fun w hw => ?_
    obtain ⟨-, e, he, -⟩ := lookupWay_holds hw
    have hsome := lookup_eq_some_iff.2 ⟨w, hw, he⟩
    rw [h] at hsome
    exact nomatch hsome
  · intro h
    rw [State.lookup, h]; rfl

/-! ## The empty ways of a bucket (R25) -/

/-- The way a new entry takes is the lowest empty one of its bucket. -/
theorem emptyWay_eq_some_iff : s.emptyWay k = some w ↔
    w / 4 = bucketOf k ∧ s.way w = none ∧ ∀ v, v / 4 = bucketOf k → v < w → s.way v ≠ none := by
  change (List.range' (4 * bucketOf k) 4).find? _ = some w ↔ _
  rw [List.find?_range'_eq_some, List.mem_range'_1]
  simp only [Option.isNone_iff_eq_none, Bool.not_eq_true', Option.isNone_eq_false_iff,
    Option.isSome_iff_ne_none]
  constructor
  · rintro ⟨hempty, hw, hlow⟩
    exact ⟨by omega, hempty, fun v hv hlt => hlow v (by omega) hlt⟩
  · rintro ⟨hw, hempty, hlow⟩
    exact ⟨hempty, by omega, fun v hv hlt => hlow v (by omega) hlt⟩

theorem emptyWay_eq_none_iff : s.emptyWay k = none ↔
    ∀ v, v / 4 = bucketOf k → s.way v ≠ none := by
  simp [State.emptyWay, mem_waysOf]

end

/-! ## Soundness by what the ways read as (R18) -/

theorem credentialsSound_iff (t : Tables) : CredentialsSound t ↔
    Store.wf none t.credentials = true ∧
      ∀ w e, t.credentials.get none w = some e → w / 4 = bucketOf e.key ∧
        ∀ v f, t.credentials.get none v = some f → f.key = e.key → v = w := by
  refine and_congr_right fun hwf => ?_
  simp only [Store.mem_iff_get none hwf, ne_eq, reduceCtorEq, not_false_eq_true, true_and]

section
variable {s : State}

/-- An occupied way belongs to its key's bucket (R18). -/
theorem CredentialTableSound.bucket (h : CredentialTableSound s) {w : Nat} {e : BadgeEntry}
    (he : s.way w = some e) : w / 4 = bucketOf e.key :=
  (((credentialsSound_iff s.tables).1 h.1.1).2 w e he).1

/-- No key occupies two ways (R18). -/
theorem CredentialTableSound.unique (h : CredentialTableSound s) {w v : Nat} {e f : BadgeEntry}
    (he : s.way w = some e) (hf : s.way v = some f) (hk : f.key = e.key) : v = w :=
  (((credentialsSound_iff s.tables).1 h.1.1).2 w e he).2 v f hf hk

theorem CredentialTableSound.lookupWay_eq_some_iff (h : CredentialTableSound s) (k : BadgeKey)
    (w : Nat) : s.lookupWay k = some w ↔ ∃ e, e.key = k ∧ s.way w = some e := by
  constructor
  · intro hw
    obtain ⟨-, e, he, hk⟩ := lookupWay_holds hw
    exact ⟨e, hk, he⟩
  · rintro ⟨e, rfl, he⟩
    cases hv : s.lookupWay e.key with
    | none => exact absurd rfl (lookupWay_eq_none_iff.1 hv w e (h.bucket he) he)
    | some v =>
      obtain ⟨-, f, hf, hk⟩ := lookupWay_holds hv
      rw [h.unique he hf hk]

theorem CredentialTableSound.lookupWay_eq_none_iff (h : CredentialTableSound s) (k : BadgeKey) :
    s.lookupWay k = none ↔ ∀ w e, s.way w = some e → e.key ≠ k := by
  rw [Option.eq_none_iff_forall_ne_some]
  simp only [ne_eq, h.lookupWay_eq_some_iff, not_exists, not_and]
  exact forall_congr' fun w => forall_congr' fun e => imp_not_comm

end

/-- Settles O44: in a sound table the key's bucket is the only place its entry can stand, so the bucket's ways
are all that a lookup has to see. -/
theorem lookupFindsTheEntry : Obligations.LookupFindsTheEntry := by
  refine ⟨fun k => ⟨rfl, bucketOf_le k⟩, fun s h k => ⟨fun e => ?_, h.lookupWay_eq_some_iff k, ?_⟩⟩
  · rw [lookup_eq_some_iff]
    constructor
    · rintro ⟨w, hw, he⟩
      obtain ⟨-, f, hf, hk⟩ := lookupWay_holds hw
      obtain rfl := Option.some.inj (he.symm.trans hf)
      exact ⟨hk, w, he⟩
    · rintro ⟨hk, w, he⟩
      exact ⟨w, (h.lookupWay_eq_some_iff k w).2 ⟨e, hk, he⟩, he⟩
  · rw [lookup_eq_none_iff, h.lookupWay_eq_none_iff]

end Sys2Proof.Safety
end

section
/-! SUPPORT. How a property of states is carried through the shared ways in which commands run: the step, the taking of a request and the checks of R175. -/

namespace Sys2Proof.Safety

open Sys2Proof.Machine

/-! ## Steps and outcomes -/

/-- Whatever state the outcome leads to has the property. -/
def Leaves (inv : State → Prop) (o : Host.Outcome State Fault Refusal) : Prop :=
  ∀ t, o = .next t → inv t

theorem leaves_next {inv : State → Prop} {t : State} (h : inv t) : Leaves inv (.next t) := by
  intro u hu
  obtain rfl := Host.Outcome.next.inj hu
  exact h

theorem Leaves.mono {inv inv' : State → Prop} {o : Host.Outcome State Fault Refusal}
    (h : Leaves inv o) (hi : ∀ t, inv t → inv' t) : Leaves inv' o :=
  fun t ht => hi t (h t ht)

/-- A property that the idle step and every command keep, whatever commands wait, is kept by every step. -/
theorem kept_of_exec {inv : State → Prop} (hidle : ∀ s, inv s → inv s.idle)
    (hpending : ∀ (s : State) rest, inv s → inv { s with pending := rest })
    (hexec : ∀ s c, inv s → Leaves inv (exec c s)) : Kept inv := by
  intro s t hs ht
  unfold step at ht
  split at ht
  · exact leaves_next (hidle s hs) t ht
  · exact hexec _ _ (hpending s _ hs) t ht

/-! ## Requests (R173 to R175) -/

section
variable {inv : State → Prop} {s : State} {p : List Byte} {need : Nat} {ok : Bool} {k : Reply}

/-- A property that neither the request FIFO nor the response FIFO nor the free counter bears on is kept by
serving when the handling keeps it. -/
theorem serve_keeps (htake : ∀ (u : State) rest, inv u → inv { u with requests := rest })
    (hrespond : ∀ (u : State) p c d, inv u → inv (u.respond p c d))
    {mine : List Byte → Bool} {handle : List Byte → State → Reply}
    (hhandle : ∀ p u, inv u → inv (handle p u).state) (h : inv s) : inv (s.serve mine handle) := by
  rcases s.serve_cases mine handle with ⟨p, rest, -, e⟩ | ⟨-, e⟩ <;> rw [e]
  · exact hrespond _ _ _ _ (hhandle p _ (htake s rest h))
  · exact h

theorem checkLength_keeps (h : inv s) (hk : inv k.state) : inv (s.checkLength p need k).state := by
  unfold State.checkLength
  split_ifs
  · exact h
  · exact hk

theorem checkCode_keeps (h : inv (s.raise .authFailed)) (hk : inv k.state) :
    inv (s.checkCode p k).state := by
  unfold State.checkCode
  split_ifs
  · exact hk
  · exact h

theorem checkSaving_keeps (h : inv s) (hk : inv k.state) : inv (s.checkSaving k).state := by
  unfold State.checkSaving
  split_ifs
  · exact h
  · exact hk

theorem checkIndex_keeps (h : inv s) (hk : inv k.state) : inv (s.checkIndex ok k).state := by
  unfold State.checkIndex
  split_ifs
  · exact hk
  · exact h

theorem checkField_keeps (h : inv s) (hk : inv k.state) : inv (s.checkField ok k).state := by
  unfold State.checkField
  split_ifs
  · exact hk
  · exact h

/-- Either branch of a handling's own test. -/
theorem ite_keeps {c : Prop} [Decidable c] {k' : Reply} (hk : inv k.state) (hk' : inv k'.state) :
    inv (if c then k else k').state := by
  split_ifs
  · exact hk
  · exact hk'

theorem checkChange_keeps (h : inv s) (ha : inv (s.raise .authFailed)) (hk : inv k.state) :
    inv (s.checkChange p need k).state :=
  checkLength_keeps h (checkCode_keeps ha (checkSaving_keeps h hk))

theorem checkCommand_keeps (h : inv s) (ha : inv (s.raise .authFailed)) (hk : inv k.state) :
    inv (s.checkCommand p need k).state :=
  checkLength_keeps h (checkCode_keeps ha hk)

end

end Sys2Proof.Safety
end

section
/-! SUPPORT. What bears on the soundness of the Credential Table, and the writes of a way that keep it (R18, R25, R26, R32, R35). -/

namespace Sys2Proof.Safety

open Sys2Proof.Machine

/-! ## Tables -/

section
variable {t : Tables}

theorem credentialsSound_empty : CredentialsSound {} := ⟨rfl, nofun⟩

/-- There are 4,096 buckets of four ways (R18). -/
theorem CredentialsSound.length_le (h : CredentialsSound t) : t.credentials.length ≤ 16384 := by
  obtain ⟨hwf, hways⟩ := h
  refine Store.length_le none hwf fun ⟨w, o⟩ hm => ?_
  cases o with
  | none => exact absurd rfl ((Store.mem_iff_get none hwf w none).1 hm).1
  | some e =>
    have hbucket := (hways w e hm).1
    have hle := bucketOf_le e.key
    change w < 16384
    omega

/-- An entry may be placed in a way of its key's bucket when no other way holds the key. -/
theorem CredentialsSound.place (h : CredentialsSound t) {w : Nat} {e : BadgeEntry}
    (hw : w / 4 = bucketOf e.key)
    (hk : ∀ v f, t.credentials.get none v = some f → f.key = e.key → v = w) :
    CredentialsSound { t with credentials := t.credentials.set none w (some e) } := by
  obtain ⟨hwf, hways⟩ := (credentialsSound_iff t).1 h
  refine (credentialsSound_iff _).2 ⟨Store.wf_set none _ w (some e) hwf, fun v f hv => ?_⟩
  simp only [Store.get_set] at hv ⊢
  by_cases hvw : w = v
  · subst hvw
    obtain rfl : e = f := by simpa using hv
    refine ⟨hw, fun u g hu hg => ?_⟩
    by_cases huw : w = u
    · exact huw.symm
    · rw [if_neg huw] at hu
      exact hk u g hu hg
  · rw [if_neg hvw] at hv
    refine ⟨(hways v f hv).1, fun u g hu hg => ?_⟩
    by_cases huw : w = u
    · rw [if_pos huw] at hu
      obtain rfl : e = g := by simpa using hu
      exact absurd (hk v f hv hg.symm).symm hvw
    · rw [if_neg huw] at hu
      exact (hways v f hv).2 u g hu hg

/-- Emptying a way breaks nothing. -/
theorem CredentialsSound.clear (h : CredentialsSound t) (w : Nat) :
    CredentialsSound { t with credentials := t.credentials.set none w none } := by
  obtain ⟨hwf, hways⟩ := h
  refine ⟨Store.wf_set none _ w none hwf, fun v e hv => ?_⟩
  have hleft : ∀ x ∈ t.credentials.set none w none, x ∈ t.credentials := fun x hx =>
    (List.mem_filter.1 hx).1
  exact ⟨(hways v e (hleft _ hv)).1, fun u f hu => (hways v e (hleft _ hv)).2 u f (hleft _ hu)⟩

end

/-! ## The parts of the state that bear on it -/

/-- The Credential Table in RAM, the population count, the image and the save in progress: all that the
soundness of the Credential Table speaks of. -/
def credentialParts (s : State) :
    Store (Option BadgeEntry) × Nat × Option Image × Option SaveJob :=
  (s.tables.credentials, s.population, s.image, s.saving)

/-- The bound of the population count follows from the rest. -/
theorem credentialTableSound_iff (s : State) : CredentialTableSound s ↔
    EveryTables CredentialsSound s ∧ s.population = s.tables.credentials.length := by
  constructor
  · rintro ⟨htables, hcount, -⟩
    exact ⟨htables, hcount⟩
  · rintro ⟨htables, hcount⟩
    exact ⟨htables, hcount, hcount.trans_le htables.1.length_le⟩

theorem CredentialTableSound.of_parts {s t : State} (h : CredentialTableSound s)
    (e : credentialParts t = credentialParts s) : CredentialTableSound t := by
  simp only [credentialParts, Prod.mk.injEq] at e
  obtain ⟨hcredentials, hpopulation, himage, hsaving⟩ := e
  unfold CredentialTableSound EveryTables CredentialsSound
  rw [hcredentials, hpopulation, himage, hsaving]
  exact h

/-! ## Writes of a way -/

section
variable {s : State} {w : Nat} {e f : BadgeEntry}

/-- The entry of a way is replaced by another one with its key. -/
theorem CredentialTableSound.replace (h : CredentialTableSound s) (hf : s.way w = some f)
    (hk : e.key = f.key) : CredentialTableSound (s.setWay w (some e)) := by
  obtain ⟨⟨htables, hstored⟩, hcount⟩ := (credentialTableSound_iff s).1 h
  refine (credentialTableSound_iff _).2 ⟨⟨htables.place ?_ fun v g hg hkey => ?_, hstored⟩, ?_⟩
  · rw [hk]; exact h.bucket hf
  · exact h.unique hf hg (hkey.trans hk)
  · have hlisted : s.tables.credentials.get none w ≠ none := by
      rw [show s.tables.credentials.get none w = some f from hf]; simp
    exact hcount.trans ((Store.length_insert none htables.1 w (some e)).trans
      (if_neg hlisted)).symm

/-- An entry whose key has no way yet takes an empty way of its bucket, and the population rises (R25). -/
theorem CredentialTableSound.add (h : CredentialTableSound s) (hw : w / 4 = bucketOf e.key)
    (hempty : s.way w = none) (hnew : s.lookupWay e.key = none) :
    CredentialTableSound { s.setWay w (some e) with population := s.population + 1 } := by
  obtain ⟨⟨htables, hstored⟩, hcount⟩ := (credentialTableSound_iff s).1 h
  refine (credentialTableSound_iff _).2 ⟨⟨htables.place hw fun v g hg hkey => ?_, hstored⟩, ?_⟩
  · exact absurd hkey ((h.lookupWay_eq_none_iff e.key).1 hnew v g hg)
  · exact (congrArg (· + 1) hcount).trans ((Store.length_insert none htables.1 w (some e)).trans
      (if_pos hempty)).symm

/-- An occupied way becomes empty, and the population falls (R26). -/
theorem CredentialTableSound.remove (h : CredentialTableSound s) (he : s.way w = some e) :
    CredentialTableSound { s.setWay w none with population := s.population - 1 } := by
  obtain ⟨⟨htables, hstored⟩, hcount⟩ := (credentialTableSound_iff s).1 h
  refine (credentialTableSound_iff _).2 ⟨⟨htables.clear w, hstored⟩, ?_⟩
  have hlisted : s.tables.credentials.get none w ≠ none := by
    rw [show s.tables.credentials.get none w = some e from he]; simp
  exact (congrArg (· - 1) hcount).trans (Store.length_remove none htables.1 hlisted).symm

/-- Counting a visitor's trips down leaves the entry its key (R32). -/
theorem CredentialTableSound.countDown (h : CredentialTableSound s) (k : BadgeKey) :
    CredentialTableSound (s.countDown k) := by
  unfold State.countDown
  split
  · exact h
  · split
    · exact h
    · next he =>
      split_ifs
      · exact h.replace he rfl
      · exact h

end

end Sys2Proof.Safety
end

section
/-! SUPPORT. The commands of the ports, the Call Exchange, the alarm lines and the clock leave the Credential Table, the population count, the image and the save as they are, an ASSIGN's count-down apart. -/

namespace Sys2Proof.Safety

open Sys2Proof.Machine

/-! ## Shared operations

The frame equation of an operation names none of the parts. -/

section
variable (s : State)

@[simp] theorem parts_raise (k : EventKind) : credentialParts (s.raise k) = credentialParts s := rfl

@[simp] theorem parts_setTerminal (u : Nat) (v : TerminalState) :
    credentialParts (s.setTerminal u v) = credentialParts s := rfl

@[simp] theorem parts_setGroup (g : Nat) (v : GroupState) :
    credentialParts (s.setGroup g v) = credentialParts s := rfl

@[simp] theorem parts_setLine (k : Nat) (v : LineState) :
    credentialParts (s.setLine k v) = credentialParts s := rfl

@[simp] theorem parts_setLineConfig (k : Nat) (c : LineConfig) :
    credentialParts (s.setLineConfig k c) = credentialParts s := rfl

@[simp] theorem parts_reach (d : Nat) : credentialParts (s.reach d) = credentialParts s := rfl

@[simp] theorem parts_removeTrip (n : Nat) :
    credentialParts (s.removeTrip n) = credentialParts s := rfl

@[simp] theorem parts_updateTrip (n : Nat) (f : Trip → Trip) :
    credentialParts (s.updateTrip n f) = credentialParts s := rfl

@[simp] theorem parts_removeOutstanding (g tag : Nat) :
    credentialParts (s.removeOutstanding g tag) = credentialParts s := rfl

@[simp] theorem parts_endAwait (x : Trip) (a : Answer) :
    credentialParts (s.endAwait x a) = credentialParts s :=
  (congrArg credentialParts (s.endAwait_frame x a)).trans rfl

@[simp] theorem parts_failTrip (n : Nat) (r : Reason) :
    credentialParts (s.failTrip n r) = credentialParts s :=
  (congrArg credentialParts (s.failTrip_frame n r)).trans rfl

@[simp] theorem parts_withdrawQueue (g : Nat) :
    credentialParts (s.withdrawQueue g) = credentialParts s :=
  (congrArg credentialParts (s.withdrawQueue_frame g)).trans rfl

@[simp] theorem parts_placeCancel (c : Cancel) :
    credentialParts (s.placeCancel c) = credentialParts s :=
  (congrArg credentialParts (s.placeCancel_frame c)).trans rfl

@[simp] theorem parts_handOn (f : Frame) : credentialParts (s.handOn f) = credentialParts s :=
  (congrArg credentialParts (State.signOfLifeFrom_frame _ f.source)).trans rfl

@[simp] theorem parts_miss (x : Exchange) : credentialParts (s.miss x) = credentialParts s :=
  (congrArg credentialParts (s.miss_frame x)).trans rfl

@[simp] theorem parts_goodReply (x : Exchange) :
    credentialParts (s.goodReply x) = credentialParts s :=
  (congrArg credentialParts (s.goodReply_frame x)).trans rfl

@[simp] theorem parts_admission (p : Presentation) :
    credentialParts (s.admission p) = credentialParts s :=
  (congrArg credentialParts (s.admission_frame p)).trans rfl

@[simp] theorem parts_raiseLine (c : LineConfig) (k : EventKind) :
    credentialParts (s.raiseLine c k) = credentialParts s :=
  (congrArg credentialParts (s.raiseLine_frame c k)).trans rfl

@[simp] theorem parts_followActive (k : Nat) (was : Bool) :
    credentialParts (s.followActive k was) = credentialParts s :=
  (congrArg credentialParts (s.followActive_frame k was)).trans rfl

@[simp] theorem parts_formMode : credentialParts s.formMode = credentialParts s :=
  (congrArg credentialParts s.formMode_frame).trans rfl

@[simp] theorem parts_acceptLevel (k : Nat) (v : Level) :
    credentialParts (s.acceptLevel k v) = credentialParts s :=
  (congrArg credentialParts (s.acceptLevel_frame k v)).trans rfl

@[simp] theorem parts_startDebounce (k : Nat) :
    credentialParts (s.startDebounce k) = credentialParts s :=
  (congrArg credentialParts (s.startDebounce_frame k)).trans rfl

@[simp] theorem parts_setStandby (b : PolicyBank) :
    credentialParts (s.setStandby b) = credentialParts s := by
  unfold State.setStandby; split <;> rfl

end

/-! ## The Terminal Port and the Denial Monitor (04) -/

/-- The outcome's state has the parts of `s`. -/
def LeavesParts (s : State) : Host.Outcome State Fault Refusal → Prop :=
  Leaves (fun t => credentialParts t = credentialParts s)

section
variable (s : State)

theorem parts_offerToNetwork (kind : Nat) (frame : List Byte) :
    credentialParts (s.offerToNetwork kind frame) = credentialParts s := by
  unfold State.offerToNetwork
  split_ifs <;> rfl

theorem parts_takePresent (u : Nat) (payload : List Byte) :
    credentialParts (s.takePresent u payload) = credentialParts s := by
  unfold State.takePresent
  split_ifs <;> simp

theorem execSendPoll_parts : LeavesParts s (execSendPoll s) := by
  refine leaves_next ?_
  split
  · split <;> rfl
  · rfl

theorem execReplyTimeExpiry_parts : LeavesParts s (execReplyTimeExpiry s) := by
  refine leaves_next ?_
  split
  · rfl
  · split
    · rfl
    · exact parts_miss _ _

theorem execPollReply_parts (r : Reception) : LeavesParts s (execPollReply r s) := by
  refine leaves_next ?_
  split
  · rfl
  · dsimp only
    split_ifs
    · rfl
    · exact parts_goodReply _ _
    · exact (parts_offerToNetwork _ _ _).trans (parts_goodReply _ _)

theorem execPresentReply_parts (r : Reception) : LeavesParts s (execPresentReply r s) := by
  refine leaves_next ?_
  split
  · rfl
  · dsimp only
    split_ifs
    · rfl
    · exact parts_goodReply _ _
    · exact (parts_takePresent _ _ _).trans (parts_goodReply _ _)

theorem execDecayExpiry_parts (u : Nat) : LeavesParts s (execDecayExpiry u s) := by
  refine leaves_next ?_
  split
  · rfl
  · split <;> rfl

theorem execHoldExpiry_parts (u : Nat) : LeavesParts s (execHoldExpiry u s) := by
  refine leaves_next ?_
  split
  · split <;> rfl
  all_goals rfl

theorem execSendAnswer_parts : LeavesParts s (execSendAnswer s) := by
  refine leaves_next ?_
  split
  · rfl
  · dsimp only
    split_ifs <;> rfl

theorem execSendGToTRelay_parts : LeavesParts s (execSendGToTRelay s) := by
  refine leaves_next ?_
  split
  · rfl
  · dsimp only
    split_ifs <;> rfl

theorem execReceiverIdle_parts (port : Port) : LeavesParts s (execReceiverIdle port s) := by
  refine leaves_next ?_
  cases port <;> dsimp only <;> split <;> rfl

theorem execReceptionStart_parts (port : Port) : LeavesParts s (execReceptionStart port s) := by
  refine leaves_next ?_
  cases port <;> dsimp only <;> split <;> rfl

/-! ## The G-port (09) -/

theorem parts_endOnT (r : Reception) : credentialParts (s.endOnT r) = credentialParts s := by
  unfold State.endOnT
  dsimp only
  split
  · split <;> rfl
  · split_ifs
    · rfl
    · rfl
    · rfl
    · exact parts_miss _ _

theorem parts_endOnG (r : Reception) : credentialParts (s.endOnG r) = credentialParts s := by
  unfold State.endOnG
  split
  · rfl
  · split
    · rfl
    · exact parts_handOn _ _
    all_goals rfl

theorem execReceptionEnd_parts (port : Port) (r : Reception) :
    LeavesParts s (execReceptionEnd port r s) := by
  refine leaves_next ?_
  cases port <;> dsimp only <;> split
  · exact parts_endOnT s r
  · rfl
  · exact parts_endOnG s r
  · rfl

theorem execReceiveMreq_parts (r : Reception) : LeavesParts s (execReceiveMreq r s) := by
  refine leaves_next ?_
  split
  · rfl
  · dsimp only
    split <;> exact parts_handOn _ _

theorem execReceiveGToTRelay_parts (r : Reception) : LeavesParts s (execReceiveGToTRelay r s) := by
  refine leaves_next ?_
  split
  · rfl
  · dsimp only
    split_ifs <;> exact parts_handOn _ _

theorem parts_takeDecline (g tag code : Nat) :
    credentialParts (s.takeDecline g tag code) = credentialParts s := by
  unfold State.takeDecline
  split <;> simp

theorem execReceiveDecline_parts (r : Reception) : LeavesParts s (execReceiveDecline r s) := by
  refine leaves_next ?_
  split
  · rfl
  · dsimp only
    split
    · exact parts_handOn _ _
    · split
      · exact parts_handOn _ _
      · exact (parts_takeDecline _ _ _ _).trans (parts_handOn _ _)

theorem execSendCancel_parts : LeavesParts s (execSendCancel s) := by
  refine leaves_next ?_
  split
  · dsimp only
    split <;> rfl
  · rfl

theorem execSendCall_parts : LeavesParts s (execSendCall s) := by
  refine leaves_next ?_
  split
  · split
    · rfl
    · dsimp only
      split <;> rfl
  · rfl

theorem execSendMrsp_parts : LeavesParts s (execSendMrsp s) := by
  refine leaves_next ?_
  split <;> rfl

theorem execSendNotice_parts : LeavesParts s (execSendNotice s) := by
  refine leaves_next ?_
  split <;> rfl

theorem execSendTToGRelay_parts : LeavesParts s (execSendTToGRelay s) := by
  refine leaves_next ?_
  split <;> rfl

theorem execSendReport_parts : LeavesParts s (execSendReport s) := by
  refine leaves_next ?_
  split <;> rfl

/-! ## The Call Exchange (07) -/

theorem parts_raiseStreak (g : Nat) : credentialParts (s.raiseStreak g) = credentialParts s := by
  unfold State.raiseStreak
  dsimp only
  split_ifs <;> simp

theorem execAnswerTimeout_parts (g tag : Nat) : LeavesParts s (execAnswerTimeout g tag s) := by
  refine leaves_next ?_
  split
  · rfl
  · split
    · simp [parts_raiseStreak]
    · rfl

theorem parts_expireTrip (n : Nat) (st : TripState) :
    credentialParts (s.expireTrip n st) = credentialParts s := by
  unfold State.expireTrip
  split
  · rfl
  · split
    · rfl
    · split <;> rfl

/-! ## The alarm lines and the clock (08, 03) -/

theorem parts_watchInput (k : Nat) (v : Level) :
    credentialParts (s.watchInput k v) = credentialParts s := by
  unfold State.watchInput
  split_ifs <;> simp

theorem execAlarmInputChange_parts (k : Nat) (v : Level) :
    LeavesParts s (execAlarmInputChange k v s) := by
  refine leaves_next ?_
  dsimp only
  split_ifs
  · rfl
  · exact parts_watchInput _ _ _
  · rfl

theorem execDebounceExpiry_parts (k : Nat) : LeavesParts s (execDebounceExpiry k s) := by
  refine leaves_next ?_
  split
  · rfl
  · split
    · simp
    · rfl

theorem execClockAdvance_parts : LeavesParts s (execClockAdvance s) := by
  refine leaves_next ?_
  split <;> rfl

end

end Sys2Proof.Safety
end

section
/-! SUPPORT. The assignments, the resets, the end of LOADING and the steps of a save keep the Credential Table sound (R32, R188 to R190). -/

namespace Sys2Proof.Safety

open Sys2Proof.Machine

/-! ## Assignment (R32, R133) -/

section
variable {s : State}

theorem CredentialTableSound.of_leavesParts (h : CredentialTableSound s)
    {o : Host.Outcome State Fault Refusal} (ho : LeavesParts s o) : Leaves CredentialTableSound o :=
  ho.mono fun _ => h.of_parts

theorem CredentialTableSound.assignTrip (h : CredentialTableSound s) (x : Trip) (car : Nat) :
    CredentialTableSound (s.assignTrip x car) := by
  unfold State.assignTrip
  dsimp only
  generalize hadvance : s.updateTrip x.number _ = s1
  have h1 : CredentialTableSound s1 := hadvance ▸ h.of_parts rfl
  have h2 : CredentialTableSound (if x.leg = 1 then s1.countDown x.key else s1) := by
    split_ifs
    · exact h1.countDown x.key
    · exact h1
  split_ifs
  all_goals exact h2.of_parts (by simp [*])

theorem CredentialTableSound.assignCall (h : CredentialTableSound s) (g : Nat) (o : Outstanding)
    (car : Nat) : CredentialTableSound (s.assignCall g o car) := by
  have h1 : CredentialTableSound (s.removeOutstanding g o.call.tag) := h.of_parts rfl
  unfold State.assignCall
  dsimp only
  split
  · exact h1.of_parts rfl
  · exact (h1.assignTrip _ car).of_parts rfl

theorem CredentialTableSound.takeAssign (h : CredentialTableSound s) (g tag car : Nat) :
    CredentialTableSound (s.takeAssign g tag car) := by
  unfold State.takeAssign
  split
  · exact h
  · split
    · exact h.assignCall g _ car
    · split
      · exact h
      · exact h.of_parts (parts_placeCancel _ _)

theorem CredentialTableSound.execReceiveAssign (h : CredentialTableSound s) (r : Reception) :
    Leaves CredentialTableSound (execReceiveAssign r s) := by
  refine leaves_next ?_
  split
  · exact h
  · next f _ =>
    have h1 : CredentialTableSound (s.handOn f) := h.of_parts (parts_handOn s f)
    dsimp only
    split
    · exact h1
    · split
      · exact h1
      · exact h1.takeAssign _ _ _

/-! ## Resets and LOADING (R189, R190) -/

/-- A save that ends where it stands leaves nothing but the tables in RAM. -/
theorem CredentialTableSound.endSave (h : CredentialTableSound s) :
    CredentialTableSound s.endSave := by
  unfold State.endSave
  split
  · exact h
  · obtain ⟨⟨htables, -, -⟩, hcount⟩ := h
    exact ⟨⟨htables, nofun, nofun⟩, hcount⟩

/-- The tables loaded are those of the image, or empty (R190). -/
theorem CredentialTableSound.loadTables (h : CredentialTableSound s) :
    CredentialTableSound s.loadTables := by
  obtain ⟨⟨-, himage, hsaving⟩, -⟩ := h
  unfold State.loadTables
  split
  · next i hi => exact (credentialTableSound_iff _).2 ⟨⟨himage i hi, himage, hsaving⟩, rfl⟩
  · exact (credentialTableSound_iff _).2 ⟨⟨credentialsSound_empty, himage, hsaving⟩, rfl⟩

theorem parts_foldl_startDebounce (ks : List Nat) (s : State) :
    credentialParts (ks.foldl State.startDebounce s) = credentialParts s := by
  induction ks generalizing s with
  | nil => rfl
  | cons k ks ih => rw [List.foldl_cons, ih, parts_startDebounce]

theorem CredentialTableSound.execLoadingEnd (h : CredentialTableSound s) :
    Leaves CredentialTableSound (execLoadingEnd s) := by
  refine leaves_next ?_
  split
  · refine h.loadTables.of_parts ((parts_foldl_startDebounce _ _).trans ?_)
    split_ifs <;> rfl
  · exact h

theorem CredentialTableSound.execFullResetEnd (h : CredentialTableSound s) :
    Leaves CredentialTableSound (execFullResetEnd s) := by
  refine leaves_next ?_
  split
  · exact h.endSave.of_parts rfl
  · exact h

theorem CredentialTableSound.execRestartMade (h : CredentialTableSound s) :
    Leaves CredentialTableSound (execRestartMade s) := by
  refine leaves_next ?_
  split
  · exact h.endSave.of_parts rfl
  · exact h

/-! ## The steps of a save (R188) -/

theorem savingAt_eq_some {st : SaveStep} {j : SaveJob} (h : s.savingAt st = some j) :
    s.saving = some j :=
  (Option.filter_eq_some_iff.1 h).1

/-- A save may go on to its next step, with the image as it was or INVALID. -/
theorem CredentialTableSound.nextStep (h : CredentialTableSound s) {j : SaveJob}
    (hj : s.saving = some j) (st : SaveStep) {image : Option Image}
    (himage : image = s.image ∨ image = none) :
    CredentialTableSound { s with image := image, saving := some { j with step := st } } := by
  obtain ⟨⟨htables, hstored, hsnapshot⟩, hcount⟩ := h
  refine ⟨⟨htables, fun i hi => ?_, ?_⟩, hcount⟩
  · rcases himage with rfl | rfl
    · exact hstored i hi
    · exact nomatch hi
  · rintro _ ⟨⟩
    exact hsnapshot j hj

theorem CredentialTableSound.failSave (h : CredentialTableSound s) :
    CredentialTableSound s.failSave := by
  obtain ⟨⟨htables, -, -⟩, hcount⟩ := h
  exact ⟨⟨htables, nofun, nofun⟩, hcount⟩

/-- A step ends: the save goes on when it was verified, and fails otherwise. -/
theorem CredentialTableSound.stepEnds (h : CredentialTableSound s) {st : SaveStep} {j : SaveJob}
    (hj : s.savingAt st = some j) (verified : Bool) (step : SaveStep) {image : Option Image}
    (himage : image = s.image ∨ image = none) :
    CredentialTableSound (if verified then
      { s with image := image, saving := some { j with step := step } } else s.failSave) := by
  split_ifs
  · exact h.nextStep (savingAt_eq_some hj) step himage
  · exact h.failSave

theorem CredentialTableSound.execSaveMarkCleared (h : CredentialTableSound s) (verified : Bool) :
    Leaves CredentialTableSound (execSaveMarkCleared verified s) := by
  refine leaves_next ?_
  split
  · exact h
  · next hj => exact h.stepEnds hj verified .eraseSectors (.inr rfl)

theorem CredentialTableSound.execSaveSectorsErased (h : CredentialTableSound s) (verified : Bool) :
    Leaves CredentialTableSound (execSaveSectorsErased verified s) := by
  refine leaves_next ?_
  split
  · exact h
  · next hj => exact h.stepEnds hj verified .programTables (.inl rfl)

theorem CredentialTableSound.execSaveTablesProgrammed (h : CredentialTableSound s)
    (verified : Bool) : Leaves CredentialTableSound (execSaveTablesProgrammed verified s) := by
  refine leaves_next ?_
  split
  · exact h
  · next hj => exact h.stepEnds hj verified .writeMark (.inl rfl)

/-- The image becomes the snapshot, which is sound. -/
theorem CredentialTableSound.execSaveMarkWritten (h : CredentialTableSound s) (verified : Bool) :
    Leaves CredentialTableSound (execSaveMarkWritten verified s) := by
  refine leaves_next ?_
  split
  · exact h
  · next j hj =>
    split_ifs
    · obtain ⟨⟨htables, -, hsnapshot⟩, hcount⟩ := h
      refine ⟨⟨htables, ?_, nofun⟩, hcount⟩
      rintro _ ⟨⟩
      exact hsnapshot j (savingAt_eq_some hj)
    · exact h.failSave

end

end Sys2Proof.Safety
end

section
/-! SUPPORT. The management requests keep the Credential Table sound, and the proof of O57 (R18, R35). -/

namespace Sys2Proof.Safety

open Sys2Proof.Machine

section
variable {s : State}

/-! ## Requests (10) -/

/-- Serving keeps the table sound when the handling does. -/
theorem CredentialTableSound.serve (h : CredentialTableSound s) {mine : List Byte → Bool}
    {handle : List Byte → State → Reply}
    (hhandle : ∀ p u, CredentialTableSound u → CredentialTableSound (handle p u).state) :
    Leaves CredentialTableSound (.next (s.serve mine handle)) :=
  leaves_next (serve_keeps (fun _ _ hu => hu.of_parts rfl) (fun _ _ _ _ hu => hu.of_parts rfl)
    hhandle h)

variable {p : List Byte} {need : Nat} {k : Reply}

theorem CredentialTableSound.checkChange (h : CredentialTableSound s)
    (hk : CredentialTableSound k.state) : CredentialTableSound (s.checkChange p need k).state :=
  checkChange_keeps h (h.of_parts rfl) hk

theorem CredentialTableSound.checkCommand (h : CredentialTableSound s)
    (hk : CredentialTableSound k.state) : CredentialTableSound (s.checkCommand p need k).state :=
  checkCommand_keeps h (h.of_parts rfl) hk

/-! ### WRITE and ERASE of the Credential Table (R25, R26) -/

theorem parts_putEntry (s : State) (w : Nat) (e : BadgeEntry) :
    credentialParts (s.putEntry w e) = credentialParts (s.setWay w (some e)) := by
  unfold State.putEntry
  dsimp only
  split_ifs <;> rfl

theorem CredentialTableSound.placeEntry (h : CredentialTableSound s) (e : BadgeEntry) :
    CredentialTableSound (s.placeEntry e).state := by
  unfold State.placeEntry
  split
  · next w hw =>
    obtain ⟨-, f, hf, hk⟩ := lookupWay_holds hw
    exact (h.replace hf hk.symm).of_parts (parts_putEntry _ w e)
  · next hnew =>
    split
    · next w hw =>
      obtain ⟨hbucket, hempty, -⟩ := emptyWay_eq_some_iff.1 hw
      exact (h.add hbucket hempty hnew).of_parts (parts_putEntry _ w e)
    · exact h

theorem CredentialTableSound.eraseKey (h : CredentialTableSound s) (key : BadgeKey) :
    CredentialTableSound (s.eraseKey key).state := by
  unfold State.eraseKey
  split
  · exact h
  · next w hw =>
    obtain ⟨-, e, he, -⟩ := lookupWay_holds hw
    exact (h.remove he).of_parts rfl

/-! ### WRITE and ERASE of the other tables -/

section
variable (s : State)

theorem parts_configureTerminal (u : Nat) (c : TerminalConfig) :
    credentialParts (s.configureTerminal u c) = credentialParts s := by
  unfold State.configureTerminal
  split_ifs <;> rfl

theorem parts_eraseTerminal (u : Nat) :
    credentialParts (s.eraseTerminal u) = credentialParts s := by
  unfold State.eraseTerminal
  split_ifs <;> rfl

theorem parts_applyTrigger (k : Nat) (edge : Bool) :
    credentialParts (s.applyTrigger k edge) = credentialParts s := by
  unfold State.applyTrigger
  dsimp only
  split_ifs <;> simp

theorem parts_applyLine (k : Nat) (c : LineConfig) :
    credentialParts (s.applyLine k c) = credentialParts s := by
  unfold State.applyLine State.applyPolarity
  simp [parts_applyTrigger]

theorem parts_unlatch (k : Nat) : credentialParts (s.unlatch k) = credentialParts s := by
  simp [State.unlatch]

theorem parts_holdGroup (g : Nat) : credentialParts (s.holdGroup g) = credentialParts s := by
  unfold State.holdGroup
  split_ifs <;> simp

theorem parts_resumeGroup (g : Nat) : credentialParts (s.resumeGroup g) = credentialParts s := by
  unfold State.resumeGroup
  split_ifs <;> simp

end

/-! ### The other requests -/

/-- A READ answers the state as it was, or with the free counter moved on. -/
theorem handleRead_sound (p : List Byte) (u : State) (h : CredentialTableSound u) :
    CredentialTableSound (handleRead p u).state := by
  have hpolicy : ∀ size record, CredentialTableSound (u.readPolicy p size record).state := by
    intro size record
    unfold State.readPolicy
    refine checkIndex_keeps h ?_
    split <;> exact h
  have htable : ∀ lo hi record, CredentialTableSound (u.readTable p lo hi record).state :=
    fun lo hi record => checkIndex_keeps h h
  have hway : CredentialTableSound (u.readWay p).state := by
    unfold State.readWay
    refine checkIndex_keeps h ?_
    split
    · exact h
    · exact h.of_parts rfl
  refine checkLength_keeps h ?_
  split
  case h_1 => exact hway
  case h_2 | h_3 | h_4 | h_5 => exact hpolicy _ _
  case h_14 | h_15 => exact h
  all_goals exact htable _ _ _

theorem handleFind_sound (p : List Byte) (u : State) (h : CredentialTableSound u) :
    CredentialTableSound (handleFind p u).state := by
  refine checkLength_keeps h ?_
  split
  · exact h
  · split
    · exact h
    · exact h.of_parts rfl

theorem handleUndefined_sound (p : List Byte) (u : State) (h : CredentialTableSound u) :
    CredentialTableSound (handleUndefined p u).state := by
  unfold handleUndefined
  split_ifs
  · exact h
  · exact checkLength_keeps h (checkCode_keeps (h.of_parts rfl) (checkSaving_keeps h h))
  · exact checkLength_keeps h h

/-- A WRITE to the Settings record stores its item or is refused. -/
theorem handleWriteSettings_sound (p : List Byte) (u : State) (h : CredentialTableSound u) :
    CredentialTableSound (handleWriteSettings p u).state := by
  refine h.checkChange (checkIndex_keeps h ?_)
  split
  · exact h
  · exact h.of_parts rfl

/-- The snapshot that a save captures is as sound as the table (R188). -/
theorem CredentialTableSound.saveBegun (h : CredentialTableSound s) :
    CredentialTableSound { s with saving := some ⟨.clearMark, s.snapshot⟩ } := by
  obtain ⟨⟨htables, himage, -⟩, hcount⟩ := h
  refine ⟨⟨htables, himage, ?_⟩, hcount⟩
  rintro _ ⟨⟩
  exact htables

end

/-! ## Every step (R18, R35) -/

/-- Every command keeps the Credential Table sound. -/
theorem CredentialTableSound.exec {s : State} (h : CredentialTableSound s) (c : Instr) :
    Leaves CredentialTableSound (exec c s) := by
  cases c with
  -- resets, LOADING and the clock
  | fullReset => exact leaves_next (h.endSave.of_parts rfl)
  | fullResetEnd => exact h.execFullResetEnd
  | loadingEnd => exact h.execLoadingEnd
  | restartMade => exact h.execRestartMade
  | clockAdvance => exact h.of_leavesParts (execClockAdvance_parts s)
  -- the Terminal Port
  | sendPoll => exact h.of_leavesParts (execSendPoll_parts s)
  | replyTimeExpiry => exact h.of_leavesParts (execReplyTimeExpiry_parts s)
  | pollReply r => exact h.of_leavesParts (execPollReply_parts s r)
  | presentReply r => exact h.of_leavesParts (execPresentReply_parts s r)
  | decayExpiry u => exact h.of_leavesParts (execDecayExpiry_parts s u)
  | holdExpiry u => exact h.of_leavesParts (execHoldExpiry_parts s u)
  | sendAnswer => exact h.of_leavesParts (execSendAnswer_parts s)
  | sendGToTRelay => exact h.of_leavesParts (execSendGToTRelay_parts s)
  | receiverIdle port => exact h.of_leavesParts (execReceiverIdle_parts s port)
  | receptionStart port => exact h.of_leavesParts (execReceptionStart_parts s port)
  | receptionEnd port r => exact h.of_leavesParts (execReceptionEnd_parts s port r)
  -- the G-port and the Call Exchange
  | receiveMreq r => exact h.of_leavesParts (execReceiveMreq_parts s r)
  | receiveGToTRelay r => exact h.of_leavesParts (execReceiveGToTRelay_parts s r)
  | receiveAssign r => exact h.execReceiveAssign r
  | receiveDecline r => exact h.of_leavesParts (execReceiveDecline_parts s r)
  | answerTimeout g tag => exact h.of_leavesParts (execAnswerTimeout_parts s g tag)
  | repeatGuardExpiry n => exact leaves_next (h.of_parts (parts_expireTrip s n _))
  | transferWindowExpiry n => exact leaves_next (h.of_parts (parts_expireTrip s n _))
  | sendCancel => exact h.of_leavesParts (execSendCancel_parts s)
  | sendCall => exact h.of_leavesParts (execSendCall_parts s)
  | sendMrsp => exact h.of_leavesParts (execSendMrsp_parts s)
  | sendNotice => exact h.of_leavesParts (execSendNotice_parts s)
  | sendTToGRelay => exact h.of_leavesParts (execSendTToGRelay_parts s)
  | sendReport => exact h.of_leavesParts (execSendReport_parts s)
  -- the alarm lines
  | alarmInputChange k v => exact h.of_leavesParts (execAlarmInputChange_parts s k v)
  | debounceExpiry k => exact h.of_leavesParts (execDebounceExpiry_parts s k)
  -- a save
  | saveMarkCleared verified => exact h.execSaveMarkCleared verified
  | saveSectorsErased verified => exact h.execSaveSectorsErased verified
  | saveTablesProgrammed verified => exact h.execSaveTablesProgrammed verified
  | saveMarkWritten verified => exact h.execSaveMarkWritten verified
  -- reading requests
  | read => exact h.serve handleRead_sound
  | find => exact h.serve handleFind_sound
  | readStatus => exact h.serve fun _ _ hu => checkLength_keeps hu hu
  | undefinedOperation => exact h.serve handleUndefined_sound
  -- WRITE and ERASE
  | writeCredential =>
    exact h.serve fun _ _ hu => hu.checkChange (checkField_keeps hu (hu.placeEntry _))
  | eraseCredential => exact h.serve fun _ _ hu => hu.checkChange (hu.eraseKey _)
  | writeProfile | writeTenant | writeLanding =>
    exact h.serve fun _ _ hu => hu.checkChange (checkIndex_keeps hu
      (checkField_keeps hu (hu.of_parts (parts_setStandby _ _))))
  | writeHoliday | eraseProfile | eraseTenant | eraseHoliday | eraseLanding =>
    exact h.serve fun _ _ hu => hu.checkChange (checkIndex_keeps hu
      (hu.of_parts (parts_setStandby _ _)))
  | writeGroup | writeSkyLobby | writeFormat | writeFacilityRange =>
    exact h.serve fun _ _ hu => hu.checkChange (checkIndex_keeps hu
      (checkField_keeps hu (hu.of_parts rfl)))
  | eraseSkyLobby | eraseFormat | eraseFacilityRange =>
    exact h.serve fun _ _ hu => hu.checkChange (checkIndex_keeps hu (hu.of_parts rfl))
  | eraseGroup =>
    exact h.serve fun _ _ hu => hu.checkChange (checkIndex_keeps hu (ite_keeps hu (hu.of_parts rfl)))
  | writeTerminal =>
    exact h.serve fun _ _ hu => hu.checkChange (checkIndex_keeps hu
      (checkField_keeps hu (hu.of_parts (parts_configureTerminal _ _ _))))
  | eraseTerminal =>
    exact h.serve fun _ _ hu => hu.checkChange (checkIndex_keeps hu
      (ite_keeps hu (hu.of_parts (parts_eraseTerminal _ _))))
  | writeAlarmLine =>
    exact h.serve fun _ _ hu => hu.checkChange (checkIndex_keeps hu
      (checkField_keeps hu (hu.of_parts (parts_applyLine _ _ _))))
  | eraseAlarmLine =>
    exact h.serve fun _ _ hu => hu.checkChange (checkIndex_keeps hu
      (hu.of_parts (parts_applyLine _ _ _)))
  | writeSettings =>
    exact h.serve handleWriteSettings_sound
  -- commands
  | switchBanks => exact h.serve fun _ _ hu => hu.checkChange (hu.of_parts rfl)
  | copyActiveToStandby =>
    exact h.serve fun _ _ hu => hu.checkChange (hu.of_parts (parts_setStandby _ _))
  | saveImage => exact h.serve fun _ _ hu => hu.checkChange hu.saveBegun
  | restart | lockZones | unlockZones =>
    exact h.serve fun _ _ hu => hu.checkCommand (hu.of_parts rfl)
  | startService =>
    exact h.serve fun _ _ hu => hu.checkCommand (ite_keeps (hu.of_parts rfl) hu)
  | setTime | clearEvents =>
    exact h.serve fun _ _ hu => hu.checkCommand (checkField_keeps hu (hu.of_parts rfl))
  | setSiteCode =>
    exact h.serve fun _ _ hu => hu.checkCommand (ite_keeps hu (hu.of_parts rfl))
  | releaseTerminal =>
    exact h.serve fun _ _ hu => hu.checkCommand (checkIndex_keeps hu (hu.of_parts rfl))
  | ackLine =>
    exact h.serve fun _ _ hu => hu.checkCommand (checkIndex_keeps hu
      (ite_keeps (ite_keeps hu (hu.of_parts (parts_unlatch _ _))) hu))
  | holdGroup =>
    exact h.serve fun _ _ hu => hu.checkCommand (checkIndex_keeps hu
      (hu.of_parts (parts_holdGroup _ _)))
  | resumeGroup =>
    exact h.serve fun _ _ hu => hu.checkCommand (checkIndex_keeps hu
      (hu.of_parts (parts_resumeGroup _ _)))
  | enterRecall | leaveRecall =>
    exact h.serve fun _ _ hu => hu.checkCommand (hu.of_parts (parts_formMode _))

theorem CredentialTableSound.idle {s : State} (h : CredentialTableSound s) :
    CredentialTableSound s.idle := by
  unfold State.idle
  split_ifs
  · exact h
  · exact h.of_parts rfl

/-- Settles O57: most commands leave all that the invariant speaks of as it is (`LeavesParts`); WRITE and
ERASE of the Credential Table and the count-down of an ASSIGN write one way (`CredentialTableSound.replace`,
`add`, `remove`); saves, resets and LOADING move tables that are sound already. -/
theorem credentialTableStaysSound : Obligations.CredentialTableStaysSound :=
  kept_of_exec (fun _ h => h.idle) (fun _ _ h => h.of_parts rfl) fun _ c h => h.exec c

end Sys2Proof.Safety
end

section
/-! SUPPORT. WRITE and ERASE of the Credential Table, and the proof of O43 (R23 to R26, R29). -/

namespace Sys2Proof.Safety

open Sys2Proof.Machine

/-! ## The entry a WRITE carries (12.4, R23, R24) -/

/-- A mark of the entry's last byte is the bit of its weight. -/
theorem memSet_marks (n : Nat) {i : Nat} (hi : i < 8) :
    memSet (BitVec.ofNat 8 n) i = n.testBit (7 - i) := by
  rw [memSet, BitVec.getMsbD_eq_getLsbD, BitVec.getLsbD_ofNat, decide_eq_true hi,
    decide_eq_true (show 8 - 1 - i < 8 by omega), Bool.true_and, Bool.true_and]

theorem entryStateOf_eq (n : Nat) :
    entryStateOf (n % 4) = [EntryState.active, .suspended, .lost, .lost].getD (n % 4) .lost := by
  have h : n % 4 < 4 := Nat.mod_lt _ (by decide)
  interval_cases n % 4 <;> rfl

theorem credClassOf_eq (n : Nat) :
    credClassOf n = [CredClass.staff, .visitor, .service, .override].getD n .override := by
  rcases n with _ | _ | _ | _ | n <;> rfl

/-- The entry in a WRITE is that of 12.4. -/
theorem badgeAt_eq (p : List Byte) : badgeAt p recordAt = entryIn p := by
  unfold badgeAt entryIn
  simp only [memSet_marks, entryStateOf_eq, credClassOf_eq, Nat.reduceLT, Nat.reduceSub]
  rfl

/-- The structural fields lie within their ranges (R23). -/
def FieldsGood (e : BadgeEntry) : Prop :=
  (∀ n, e.tenant = some n → n ≤ 63) ∧ (∀ l, e.defaultLanding = some l → l ≤ 127) ∧
    (∀ d, e.endDay = some d → e.startDay ≤ d) ∧
    (e.cls = .visitor → ∃ n, e.trips = some (n + 1))

theorem fieldsGood_iff (e : BadgeEntry) : e.fieldsGood = true ↔ FieldsGood e := by
  have htrips : 1 ≤ e.trips.getD 0 ↔ ∃ n, e.trips = some (n + 1) := by
    rcases e.trips with _ | _ | n <;> simp
  simp only [BadgeEntry.fieldsGood, FieldsGood, Bool.and_eq_true, Bool.or_eq_true,
    Option.all_eq_true, decide_eq_true_eq, htrips, and_assoc, ne_eq, imp_iff_not_or]

/-! ## What a WRITE and an ERASE do (R25, R26, R29) -/

/-- The trips without the key's waiting pass (R29). -/
theorem dropPass_trips (s : State) (k : BadgeKey) :
    (s.dropPass k).trips =
      s.trips.filter (fun t => ¬ (t.key = k ∧ t.state = .awaitingTransfer)) := by
  refine List.filter_congr fun t _ => ?_
  simp

/-- Placing an entry writes its way, and a SUSPENDED or LOST one drops the key's waiting pass (R29). -/
theorem putEntry_eq (s : State) (w : Nat) (e : BadgeEntry) :
    s.putEntry w e = { s.setWay w (some e) with
      trips := if e.state = .active then s.trips else (s.dropPass e.key).trips } := by
  unfold State.putEntry
  dsimp only
  split_ifs <;> rfl

/-- The state with the entry in the way, the population as given, and the response's free bytes counted. -/
def placed (s : State) (w population : Nat) (e : BadgeEntry) : State :=
  { s.setWay w (some e) with
    population := population, freeCount := s.freeCount + 4
    trips := if e.state = .active then s.trips else (s.dropPass e.key).trips }

section
variable {s : State} {e : BadgeEntry} {k : BadgeKey} {w : Nat}

/-- An entry whose key has a way replaces the entry there. -/
theorem placeEntry_of_held (h : s.lookupWay e.key = some w) :
    s.placeEntry e = ⟨placed s w s.population e, .ok, badgeBytes e s.freeCount⟩ := by
  unfold State.placeEntry
  rw [h]
  exact congrArg (fun t : State => t.acceptWith false _) (putEntry_eq _ w e)

/-- Any other entry takes the lowest empty way of its bucket, and the population rises. -/
theorem placeEntry_of_empty (h : s.lookupWay e.key = none) (hw : s.emptyWay e.key = some w) :
    s.placeEntry e = ⟨placed s w (s.population + 1) e, .ok, badgeBytes e s.freeCount⟩ := by
  unfold State.placeEntry
  rw [h, hw]
  exact congrArg (fun t : State => t.acceptWith false _) (putEntry_eq _ w e)

theorem placeEntry_of_full (h : s.lookupWay e.key = none) (hw : s.emptyWay e.key = none) :
    s.placeEntry e = s.refuse .bucketFull := by
  unfold State.placeEntry
  rw [h, hw]

theorem eraseKey_of_none (h : s.lookupWay k = none) : s.eraseKey k = s.refuse .notFound := by
  rw [State.eraseKey, h]

/-- An ERASE empties the key's way and drops its waiting pass; the population falls. -/
theorem eraseKey_of_some (h : s.lookupWay k = some w) :
    s.eraseKey k = ({ s.setWay w none with
      population := s.population - 1, trips := (s.dropPass k).trips } : State).accept := by
  rw [State.eraseKey, h]; rfl

end

theorem setWay_way (s : State) (w v : Nat) (e : Option BadgeEntry) :
    (s.setWay w e).way v = if v = w then e else s.way v :=
  (Store.get_set none s.tables.credentials w v e).trans (if_congr eq_comm rfl rfl)

theorem exec_writeCredential (s : State) :
    exec .writeCredential s = .next (s.serve (isTableOp 3 1) handleWriteCredential) := rfl

theorem exec_eraseCredential (s : State) :
    exec .eraseCredential s = .next (s.serve (isTableOp 4 1) handleEraseCredential) := rfl

/-- The handling of a WRITE, in terms of the entry of 12.4. -/
theorem handleWriteCredential_eq (p : List Byte) (s : State) :
    handleWriteCredential p s =
      s.checkChange p 26 (s.checkField (entryIn p).fieldsGood (s.placeEntry (entryIn p).stored)) := by
  rw [handleWriteCredential, badgeAt_eq]

/-- Settles O43: the field check and the lookup decide which way, if any, is written; the ways are then read
back by `setWay_way`. -/
theorem credentialsAreWrittenAndErased : Obligations.CredentialsAreWrittenAndErased := by
  intro s p rest dropped
  refine ⟨fun h => ?_, fun h => ?_⟩
  · intro raw e good stored
    have hgood : (entryIn p).fieldsGood = true ↔ good := fieldsGood_iff _
    have hstored : good → ∀ w population, ({ s with requests := rest } : State).placeEntry e =
        ⟨placed { s with requests := rest } w population e, .ok, badgeBytes e s.freeCount⟩ →
        stored w population := by
      intro hok w population hplace
      refine ⟨_, h.done (exec_writeCredential s) (handleWriteCredential_eq p _)
        ((State.checkField_pass _ _ _ (hgood.2 hok)).trans hplace),
        fun v => setWay_way { s with requests := rest } w v (some e), ?_⟩
      rw [badgeBytes_eq, placed, dropPass_trips]
      rfl
    refine ⟨fun hbad => ?_, fun hok w hw => ?_, fun hok hnew w hb hempty hlow => ?_,
      fun hok hnew hfull => ?_⟩
    · exact h.refused (exec_writeCredential s) (handleWriteCredential_eq p _)
        (checkField_refuse _ (mt hgood.1 hbad) _)
    · exact hstored hok w _ (placeEntry_of_held (s := { s with requests := rest }) hw)
    · exact hstored hok w _ (placeEntry_of_empty (s := { s with requests := rest }) hnew
        (emptyWay_eq_some_iff.2 ⟨hb, hempty, hlow⟩))
    · exact h.refused (exec_writeCredential s) (handleWriteCredential_eq p _)
        ((State.checkField_pass _ _ _ (hgood.2 hok)).trans
          (placeEntry_of_full (s := { s with requests := rest }) hnew
            (emptyWay_eq_none_iff.2 hfull)))
  · intro k
    refine ⟨fun hnone => ?_, fun w hw => ?_⟩
    · exact h.refused (exec_eraseCredential s) rfl
        (eraseKey_of_none (s := { s with requests := rest }) hnone)
    · refine ⟨_, h.done (exec_eraseCredential s) rfl
        (eraseKey_of_some (s := { s with requests := rest }) hw),
        fun v => setWay_way { s with requests := rest } w v none, ?_⟩
      rw [dropPass_trips]
      rfl

end Sys2Proof.Safety
end

section
/-! SUPPORT. What the commands of the ports, of the Call Exchange and of the alarm lines, and the requests that only look or order, leave as it was: all but the work in hand. -/

namespace Sys2Proof.Safety

open Sys2Proof.Machine

/-! ## All but the work in hand -/

/-- The state with its work in hand wiped out: elapsed time, the badge entries, terminals, polling, lines of
the ports, FIFOs, trips, calls, alarm inputs and lines, building mode, events. What is left is the
configuration, the clock, the banks, the site code, the management flags and the image store. -/
def lasting (s : State) : State :=
  { s with
    restart := .none, now := 0, tables := { s.tables with credentials := [] }, population := 0
    terminals := [], roundCount := 0, roundPosition := 0, exchange := none, tReceiver := .sync
    gReceiver := .sync, tLine := none, gLine := none, answers := [], toTerminals := []
    toNetwork := [], lastServed := 0, trips := [], lastTrip := 0, groups := [], lastTag := 0
    cancels := [], inputs := [], lines := [], mode := .normal, requests := [], responses := []
    events := [], notices := [], reports := [], freeCount := 0 }

/-- The outcome's state is `s` but for the work in hand. Every field that `lasting` keeps is then that of `s`:
`congrArg` of the field over the equation says so. -/
def LeavesLasting (s : State) : Host.Outcome State Fault Refusal → Prop :=
  Leaves (fun t => lasting t = lasting s)

section
variable (s : State)

/-! ## Shared operations

The frame equation of an operation names the work in hand alone. -/

@[simp] theorem lasting_raise (k : EventKind) : lasting (s.raise k) = lasting s := rfl

@[simp] theorem lasting_reach (d : Nat) : lasting (s.reach d) = lasting s := rfl

@[simp] theorem lasting_setTerminal (u : Nat) (v : TerminalState) :
    lasting (s.setTerminal u v) = lasting s := rfl

@[simp] theorem lasting_setGroup (g : Nat) (v : GroupState) :
    lasting (s.setGroup g v) = lasting s := rfl

@[simp] theorem lasting_setLine (k : Nat) (v : LineState) :
    lasting (s.setLine k v) = lasting s := rfl

@[simp] theorem lasting_setWay (w : Nat) (e : Option BadgeEntry) :
    lasting (s.setWay w e) = lasting s := rfl

@[simp] theorem lasting_removeTrip (n : Nat) : lasting (s.removeTrip n) = lasting s := rfl

@[simp] theorem lasting_updateTrip (n : Nat) (f : Trip → Trip) :
    lasting (s.updateTrip n f) = lasting s := rfl

@[simp] theorem lasting_removeOutstanding (g tag : Nat) :
    lasting (s.removeOutstanding g tag) = lasting s := rfl

@[simp] theorem lasting_endAwait (x : Trip) (a : Answer) :
    lasting (s.endAwait x a) = lasting s :=
  (congrArg lasting (s.endAwait_frame x a)).trans rfl

@[simp] theorem lasting_failTrip (n : Nat) (r : Reason) :
    lasting (s.failTrip n r) = lasting s :=
  (congrArg lasting (s.failTrip_frame n r)).trans rfl

@[simp] theorem lasting_withdrawQueue (g : Nat) : lasting (s.withdrawQueue g) = lasting s :=
  (congrArg lasting (s.withdrawQueue_frame g)).trans rfl

@[simp] theorem lasting_placeCancel (c : Cancel) : lasting (s.placeCancel c) = lasting s :=
  (congrArg lasting (s.placeCancel_frame c)).trans rfl

@[simp] theorem lasting_handOn (f : Frame) : lasting (s.handOn f) = lasting s :=
  (congrArg lasting (State.signOfLifeFrom_frame _ f.source)).trans rfl

@[simp] theorem lasting_miss (x : Exchange) : lasting (s.miss x) = lasting s :=
  (congrArg lasting (s.miss_frame x)).trans rfl

@[simp] theorem lasting_goodReply (x : Exchange) : lasting (s.goodReply x) = lasting s :=
  (congrArg lasting (s.goodReply_frame x)).trans rfl

@[simp] theorem lasting_admission (p : Presentation) : lasting (s.admission p) = lasting s :=
  (congrArg lasting (s.admission_frame p)).trans rfl

@[simp] theorem lasting_raiseLine (c : LineConfig) (k : EventKind) :
    lasting (s.raiseLine c k) = lasting s :=
  (congrArg lasting (s.raiseLine_frame c k)).trans rfl

@[simp] theorem lasting_followActive (k : Nat) (was : Bool) :
    lasting (s.followActive k was) = lasting s :=
  (congrArg lasting (s.followActive_frame k was)).trans rfl

@[simp] theorem lasting_formMode : lasting s.formMode = lasting s :=
  (congrArg lasting s.formMode_frame).trans rfl

@[simp] theorem lasting_acceptLevel (k : Nat) (v : Level) :
    lasting (s.acceptLevel k v) = lasting s :=
  (congrArg lasting (s.acceptLevel_frame k v)).trans rfl

@[simp] theorem lasting_startDebounce (k : Nat) : lasting (s.startDebounce k) = lasting s :=
  (congrArg lasting (s.startDebounce_frame k)).trans rfl

@[simp] theorem lasting_countDown (k : BadgeKey) : lasting (s.countDown k) = lasting s := by
  unfold State.countDown
  split
  · rfl
  · split
    · rfl
    · split <;> rfl

/-! ## The Terminal Port and the Denial Monitor (04) -/

theorem lasting_offerToNetwork (kind : Nat) (frame : List Byte) :
    lasting (s.offerToNetwork kind frame) = lasting s := by
  unfold State.offerToNetwork
  split_ifs <;> rfl

theorem lasting_takePresent (u : Nat) (payload : List Byte) :
    lasting (s.takePresent u payload) = lasting s := by
  unfold State.takePresent
  split_ifs <;> simp

theorem lasting_endOnT (r : Reception) : lasting (s.endOnT r) = lasting s := by
  unfold State.endOnT
  dsimp only
  split
  · split <;> rfl
  · split_ifs
    · rfl
    · rfl
    · rfl
    · exact lasting_miss _ _

theorem execSendPoll_lasting : LeavesLasting s (execSendPoll s) := by
  refine leaves_next ?_
  split
  · split <;> rfl
  · rfl

theorem execReplyTimeExpiry_lasting : LeavesLasting s (execReplyTimeExpiry s) := by
  refine leaves_next ?_
  split
  · rfl
  · split
    · rfl
    · exact lasting_miss _ _

/-- A good reply is counted, and a frame of another kind than NIL offered for relay. -/
theorem execPollReply_lasting (r : Reception) : LeavesLasting s (execPollReply r s) := by
  refine leaves_next ?_
  split
  · rfl
  · dsimp only
    split_ifs
    · rfl
    · exact lasting_goodReply _ _
    · exact (lasting_offerToNetwork _ _ _).trans (lasting_goodReply _ _)

theorem execPresentReply_lasting (r : Reception) : LeavesLasting s (execPresentReply r s) := by
  refine leaves_next ?_
  split
  · rfl
  · dsimp only
    split_ifs
    · rfl
    · exact lasting_goodReply _ _
    · exact (lasting_takePresent _ _ _).trans (lasting_goodReply _ _)

theorem execDecayExpiry_lasting (u : Nat) : LeavesLasting s (execDecayExpiry u s) := by
  refine leaves_next ?_
  split
  · rfl
  · split <;> rfl

theorem execHoldExpiry_lasting (u : Nat) : LeavesLasting s (execHoldExpiry u s) := by
  refine leaves_next ?_
  split
  · split <;> rfl
  all_goals rfl

theorem execSendAnswer_lasting : LeavesLasting s (execSendAnswer s) := by
  refine leaves_next ?_
  split
  · rfl
  · dsimp only
    split_ifs <;> rfl

theorem execSendGToTRelay_lasting : LeavesLasting s (execSendGToTRelay s) := by
  refine leaves_next ?_
  split
  · rfl
  · dsimp only
    split_ifs <;> rfl

/-! ## The receivers of both ports (R161) -/

theorem execReceiverIdle_lasting (port : Port) : LeavesLasting s (execReceiverIdle port s) := by
  refine leaves_next ?_
  cases port <;> dsimp only <;> split <;> rfl

theorem execReceptionStart_lasting (port : Port) :
    LeavesLasting s (execReceptionStart port s) := by
  refine leaves_next ?_
  cases port <;> dsimp only <;> split <;> rfl

theorem lasting_endOnG (r : Reception) : lasting (s.endOnG r) = lasting s := by
  unfold State.endOnG
  split
  · rfl
  · split
    · rfl
    · exact lasting_handOn _ _
    all_goals rfl

theorem execReceptionEnd_lasting (port : Port) (r : Reception) :
    LeavesLasting s (execReceptionEnd port r s) := by
  refine leaves_next ?_
  cases port <;> dsimp only <;> split
  · exact lasting_endOnT s r
  · rfl
  · exact lasting_endOnG s r
  · rfl

/-! ## The G-port (09) -/

theorem execReceiveMreq_lasting (r : Reception) : LeavesLasting s (execReceiveMreq r s) := by
  refine leaves_next ?_
  split
  · rfl
  · dsimp only
    split <;> exact lasting_handOn _ _

theorem execReceiveGToTRelay_lasting (r : Reception) :
    LeavesLasting s (execReceiveGToTRelay r s) := by
  refine leaves_next ?_
  split
  · rfl
  · dsimp only
    split_ifs <;> exact lasting_handOn _ _

@[simp] theorem lasting_composeOnG (station kind : Nat) (payload : List Byte) :
    lasting (s.composeOnG station kind payload) = lasting s := rfl

theorem execSendCancel_lasting : LeavesLasting s (execSendCancel s) := by
  refine leaves_next ?_
  split
  · dsimp only
    split <;> rfl
  · rfl

theorem execSendCall_lasting : LeavesLasting s (execSendCall s) := by
  have hserved : ∀ (u : State) g, lasting { u with lastServed := g } = lasting u := fun _ _ => rfl
  refine leaves_next ?_
  split
  · next g _ =>
    split
    · rfl
    · next c rest _ =>
      have hcalled : ∀ v f, lasting ((s.setGroup g v).updateTrip c.trip f) = lasting s :=
        fun _ _ => rfl
      dsimp only
      split
      · exact (lasting_composeOnG _ _ _ _).trans ((hserved _ g).trans (hcalled _ _))
      · exact (hserved _ g).trans (hcalled _ _)
  · rfl

theorem execSendMrsp_lasting : LeavesLasting s (execSendMrsp s) := by
  refine leaves_next ?_
  split <;> rfl

theorem execSendNotice_lasting : LeavesLasting s (execSendNotice s) := by
  refine leaves_next ?_
  split <;> rfl

theorem execSendTToGRelay_lasting : LeavesLasting s (execSendTToGRelay s) := by
  refine leaves_next ?_
  split <;> rfl

theorem execSendReport_lasting : LeavesLasting s (execSendReport s) := by
  refine leaves_next ?_
  split <;> rfl

/-! ## The Call Exchange (07) -/

/-- An assignment advances its trip, counts a visitor down and answers the terminal (R32, R133). -/
theorem lasting_assignTrip (x : Trip) (car : Nat) : lasting (s.assignTrip x car) = lasting s := by
  unfold State.assignTrip
  dsimp only
  split_ifs <;> simp

theorem lasting_takeAssign (g tag car : Nat) : lasting (s.takeAssign g tag car) = lasting s := by
  unfold State.takeAssign
  split
  · rfl
  · split
    · unfold State.assignCall
      dsimp only
      split <;> simp [lasting_assignTrip]
    · split <;> simp

theorem execReceiveAssign_lasting (r : Reception) : LeavesLasting s (execReceiveAssign r s) := by
  refine leaves_next ?_
  split
  · rfl
  · dsimp only
    split
    · exact lasting_handOn _ _
    · split
      · exact lasting_handOn _ _
      · exact (lasting_takeAssign _ _ _ _).trans (lasting_handOn _ _)

theorem lasting_takeDecline (g tag code : Nat) :
    lasting (s.takeDecline g tag code) = lasting s := by
  unfold State.takeDecline
  split <;> simp

theorem execReceiveDecline_lasting (r : Reception) : LeavesLasting s (execReceiveDecline r s) := by
  refine leaves_next ?_
  split
  · rfl
  · dsimp only
    split
    · exact lasting_handOn _ _
    · split
      · exact lasting_handOn _ _
      · exact (lasting_takeDecline _ _ _ _).trans (lasting_handOn _ _)

theorem lasting_raiseStreak (g : Nat) : lasting (s.raiseStreak g) = lasting s := by
  unfold State.raiseStreak
  dsimp only
  split_ifs <;> simp

theorem execAnswerTimeout_lasting (g tag : Nat) :
    LeavesLasting s (execAnswerTimeout g tag s) := by
  refine leaves_next ?_
  split
  · rfl
  · split
    · simp [lasting_raiseStreak]
    · rfl

theorem lasting_expireTrip (n : Nat) (st : TripState) :
    lasting (s.expireTrip n st) = lasting s := by
  unfold State.expireTrip
  split
  · rfl
  · split
    · rfl
    · split <;> rfl

/-! ## The alarm lines (08) -/

theorem lasting_watchInput (k : Nat) (v : Level) : lasting (s.watchInput k v) = lasting s := by
  unfold State.watchInput
  split_ifs <;> simp

theorem execAlarmInputChange_lasting (k : Nat) (v : Level) :
    LeavesLasting s (execAlarmInputChange k v s) := by
  refine leaves_next ?_
  dsimp only
  split_ifs
  · rfl
  · exact lasting_watchInput _ _ _
  · rfl

theorem execDebounceExpiry_lasting (k : Nat) : LeavesLasting s (execDebounceExpiry k s) := by
  refine leaves_next ?_
  split
  · rfl
  · split
    · simp
    · rfl

/-- The lines' first debounce timers start as LOADING ends (R147). -/
theorem lasting_foldl_startDebounce (ks : List Nat) :
    lasting (ks.foldl State.startDebounce s) = lasting s := by
  induction ks generalizing s with
  | nil => rfl
  | cons k ks ih => rw [List.foldl_cons, ih, lasting_startDebounce]

end

/-! ## Requests (10) -/

section
variable {α : Type}

/-- Serving leaves whatever does not bear on the request FIFO, the response FIFO or the free counter as the
handling leaves it. -/
theorem serve_preserves (f : State → α)
    (htake : ∀ (u : State) rest, f { u with requests := rest } = f u)
    (hrespond : ∀ (u : State) p c d, f (u.respond p c d) = f u)
    {mine : List Byte → Bool} {handle : List Byte → State → Reply}
    (hhandle : ∀ p u, f (handle p u).state = f u) (s : State) : f (s.serve mine handle) = f s :=
  serve_keeps (inv := fun t => f t = f s) (fun u rest h => (htake u rest).trans h)
    (fun u p c d h => (hrespond u p c d).trans h) (fun p u h => (hhandle p u).trans h) rfl

variable {f : State → α} {u : State} {p : List Byte} {need : Nat} {ok : Bool} {k : Reply}

/-- A refusal by a check before a command leaves what does not bear on AUTH_FAILED. -/
theorem checkCommand_preserves (hraise : f (u.raise .authFailed) = f u) (hk : f k.state = f u) :
    f (u.checkCommand p need k).state = f u :=
  checkCommand_keeps (inv := fun t => f t = f u) rfl hraise hk

theorem checkChange_preserves (hraise : f (u.raise .authFailed) = f u) (hk : f k.state = f u) :
    f (u.checkChange p need k).state = f u :=
  checkChange_keeps (inv := fun t => f t = f u) rfl hraise hk

theorem checkIndex_preserves (hk : f k.state = f u) : f (u.checkIndex ok k).state = f u :=
  checkIndex_keeps (inv := fun t => f t = f u) rfl hk

theorem checkField_preserves (hk : f k.state = f u) : f (u.checkField ok k).state = f u :=
  checkField_keeps (inv := fun t => f t = f u) rfl hk

theorem checkLength_preserves (hk : f k.state = f u) : f (u.checkLength p need k).state = f u :=
  checkLength_keeps (inv := fun t => f t = f u) rfl hk

theorem accept_preserves {v : State} (h : f v = f u) : f v.accept.state = f u := h

theorem acceptWith_preserves {v : State} {clamped : Bool} {data : List Byte} (h : f v = f u) :
    f (v.acceptWith clamped data).state = f u := h

theorem ite_preserves {c : Prop} [Decidable c] {k' : Reply} (hk : f k.state = f u)
    (hk' : f k'.state = f u) : f (if c then k else k').state = f u :=
  ite_keeps (inv := fun t => f t = f u) hk hk'

end

/-- A request whose handling touches the work in hand alone. -/
theorem serve_lasting {mine : List Byte → Bool} {handle : List Byte → State → Reply}
    (hhandle : ∀ p u, lasting (handle p u).state = lasting u) (s : State) :
    LeavesLasting s (.next (s.serve mine handle)) :=
  leaves_next (serve_preserves lasting (fun _ _ => rfl) (fun _ _ _ _ => rfl) hhandle s)

theorem handleRead_lasting (p : List Byte) (u : State) :
    lasting (handleRead p u).state = lasting u := by
  have hpolicy : ∀ size record, lasting (u.readPolicy p size record).state = lasting u := by
    intro size record
    unfold State.readPolicy
    refine checkIndex_preserves ?_
    split <;> rfl
  have htable : ∀ lo hi record, lasting (u.readTable p lo hi record).state = lasting u :=
    fun lo hi record => checkIndex_preserves rfl
  have hway : lasting (u.readWay p).state = lasting u := by
    unfold State.readWay
    refine checkIndex_preserves ?_
    split <;> rfl
  refine checkLength_preserves ?_
  split
  case h_1 => exact hway
  case h_2 | h_3 | h_4 | h_5 => exact hpolicy _ _
  case h_14 | h_15 => rfl
  all_goals exact htable _ _ _

theorem handleFind_lasting (p : List Byte) (u : State) :
    lasting (handleFind p u).state = lasting u := by
  refine checkLength_preserves ?_
  split
  · rfl
  · split <;> rfl

theorem handleUndefined_lasting (p : List Byte) (u : State) :
    lasting (handleUndefined p u).state = lasting u := by
  unfold handleUndefined
  split_ifs
  · rfl
  · exact checkChange_preserves rfl rfl
  · exact checkLength_preserves rfl

theorem lasting_putEntry (s : State) (w : Nat) (e : BadgeEntry) :
    lasting (s.putEntry w e) = lasting s := by
  unfold State.putEntry
  dsimp only
  split_ifs <;> rfl

theorem lasting_placeEntry (s : State) (e : BadgeEntry) :
    lasting (s.placeEntry e).state = lasting s := by
  unfold State.placeEntry
  split
  · exact lasting_putEntry _ _ _
  · split
    · exact lasting_putEntry _ _ _
    · rfl

theorem lasting_eraseKey (s : State) (k : BadgeKey) :
    lasting (s.eraseKey k).state = lasting s := by
  unfold State.eraseKey
  split <;> rfl

theorem lasting_holdGroup (s : State) (g : Nat) : lasting (s.holdGroup g) = lasting s := by
  unfold State.holdGroup
  split_ifs <;> simp

theorem lasting_resumeGroup (s : State) (g : Nat) : lasting (s.resumeGroup g) = lasting s := by
  unfold State.resumeGroup
  split_ifs <;> rfl

theorem lasting_unlatch (s : State) (k : Nat) : lasting (s.unlatch k) = lasting s := by
  simp [State.unlatch]

/-! ## The commands that touch the work in hand alone -/

/-- Does the command bear on the work in hand alone? The others are the resets and the end of LOADING, the
clock, the steps of a save, and the requests that change the tables (the Credential Table apart), the banks,
the part state, the site code or the management's zones and recall flag. -/
def passing : Instr → Bool
  | .fullReset | .fullResetEnd | .loadingEnd | .restartMade | .clockAdvance | .setTime
  | .saveMarkCleared _ | .saveSectorsErased _ | .saveTablesProgrammed _ | .saveMarkWritten _
  | .writeProfile | .eraseProfile | .writeTenant | .eraseTenant | .writeHoliday | .eraseHoliday
  | .writeLanding | .eraseLanding | .writeGroup | .eraseGroup | .writeSkyLobby | .eraseSkyLobby
  | .writeTerminal | .eraseTerminal | .writeFormat | .eraseFormat | .writeFacilityRange
  | .eraseFacilityRange | .writeAlarmLine | .eraseAlarmLine | .writeSettings | .switchBanks
  | .copyActiveToStandby | .saveImage | .startService | .setSiteCode | .lockZones | .unlockZones
  | .enterRecall | .leaveRecall => false
  | _ => true

/-- A passing command leaves all but the work in hand as it was. -/
theorem exec_lasting {c : Instr} (hc : passing c = true) (s : State) :
    LeavesLasting s (exec c s) := by
  cases c with
  -- the Terminal Port
  | sendPoll => exact execSendPoll_lasting s
  | replyTimeExpiry => exact execReplyTimeExpiry_lasting s
  | pollReply r => exact execPollReply_lasting s r
  | presentReply r => exact execPresentReply_lasting s r
  | decayExpiry u => exact execDecayExpiry_lasting s u
  | holdExpiry u => exact execHoldExpiry_lasting s u
  | sendAnswer => exact execSendAnswer_lasting s
  | sendGToTRelay => exact execSendGToTRelay_lasting s
  | receiverIdle port => exact execReceiverIdle_lasting s port
  | receptionStart port => exact execReceptionStart_lasting s port
  | receptionEnd port r => exact execReceptionEnd_lasting s port r
  -- the G-port and the Call Exchange
  | receiveMreq r => exact execReceiveMreq_lasting s r
  | receiveGToTRelay r => exact execReceiveGToTRelay_lasting s r
  | receiveAssign r => exact execReceiveAssign_lasting s r
  | receiveDecline r => exact execReceiveDecline_lasting s r
  | answerTimeout g tag => exact execAnswerTimeout_lasting s g tag
  | repeatGuardExpiry n => exact leaves_next (lasting_expireTrip s n _)
  | transferWindowExpiry n => exact leaves_next (lasting_expireTrip s n _)
  | sendCancel => exact execSendCancel_lasting s
  | sendCall => exact execSendCall_lasting s
  | sendMrsp => exact execSendMrsp_lasting s
  | sendNotice => exact execSendNotice_lasting s
  | sendTToGRelay => exact execSendTToGRelay_lasting s
  | sendReport => exact execSendReport_lasting s
  -- the alarm lines
  | alarmInputChange k v => exact execAlarmInputChange_lasting s k v
  | debounceExpiry k => exact execDebounceExpiry_lasting s k
  -- requests
  | read => exact serve_lasting handleRead_lasting s
  | find => exact serve_lasting handleFind_lasting s
  | readStatus => exact serve_lasting (fun _ _ => checkLength_preserves rfl) s
  | undefinedOperation => exact serve_lasting handleUndefined_lasting s
  | writeCredential =>
    exact serve_lasting (fun _ _ => checkChange_preserves rfl
      (checkField_preserves (lasting_placeEntry _ _))) s
  | eraseCredential =>
    exact serve_lasting (fun _ _ => checkChange_preserves rfl (lasting_eraseKey _ _)) s
  | restart => exact serve_lasting (fun _ _ => checkCommand_preserves rfl rfl) s
  | releaseTerminal =>
    exact serve_lasting (fun _ _ => checkCommand_preserves rfl (checkIndex_preserves rfl)) s
  | ackLine =>
    exact serve_lasting (fun _ _ => checkCommand_preserves rfl (checkIndex_preserves
      (ite_preserves (ite_preserves rfl (lasting_unlatch _ _)) rfl))) s
  | holdGroup =>
    exact serve_lasting (fun _ _ => checkCommand_preserves rfl
      (checkIndex_preserves (lasting_holdGroup _ _))) s
  | resumeGroup =>
    exact serve_lasting (fun _ _ => checkCommand_preserves rfl
      (checkIndex_preserves (lasting_resumeGroup _ _))) s
  | clearEvents =>
    exact serve_lasting (fun _ _ => checkCommand_preserves rfl (checkField_preserves rfl)) s
  | _ => exact absurd hc Bool.false_ne_true

end Sys2Proof.Safety
end

section
/-! SUPPORT. The Week Clock and the active bank: which commands can change them, and the proofs of O5, O50 and O53 (R38, R39, R48 to R50). -/

namespace Sys2Proof.Safety

open Sys2Proof.Machine

/-! ## The clock and the active bank -/

/-- The Week Clock, which bank is active, and the active bank's contents. -/
def policyParts (s : State) : WeekClock × BankName × PolicyBank :=
  (s.clock, s.activeBank, s.active)

/-- None of it is work in hand. -/
theorem policyParts_of_lasting {s t : State} (h : lasting t = lasting s) :
    policyParts t = policyParts s := by
  have hparts := congrArg policyParts h
  exact hparts

section
variable (s : State)

/-- A write of the standby bank leaves the clock and the active bank (R39). -/
theorem policyParts_setStandby (b : PolicyBank) :
    policyParts (s.setStandby b) = policyParts s := by
  have hframe := s.setStandby_frame b
  rw [policyParts, policyParts, s.setStandby_active b, hframe]

theorem policyParts_formMode : policyParts s.formMode = policyParts s :=
  policyParts_of_lasting (lasting_formMode s)

theorem policyParts_raiseLine (c : LineConfig) (k : EventKind) :
    policyParts (s.raiseLine c k) = policyParts s :=
  policyParts_of_lasting (lasting_raiseLine s c k)

theorem policyParts_endSave : policyParts s.endSave = policyParts s := by
  unfold State.endSave
  split <;> rfl

theorem policyParts_configureTerminal (u : Nat) (c : TerminalConfig) :
    policyParts (s.configureTerminal u c) = policyParts s := by
  unfold State.configureTerminal
  split_ifs <;> rfl

theorem policyParts_eraseTerminal (u : Nat) :
    policyParts (s.eraseTerminal u) = policyParts s := by
  unfold State.eraseTerminal
  split_ifs <;> rfl

theorem policyParts_applyTrigger (k : Nat) (edge : Bool) :
    policyParts (s.applyTrigger k edge) = policyParts s := by
  unfold State.applyTrigger
  dsimp only
  split_ifs
  · rfl
  · rfl
  · rfl
  · exact (policyParts_raiseLine _ _ _).trans rfl
  · rfl
  · rfl
  · exact (policyParts_raiseLine _ _ _).trans rfl

theorem policyParts_applyLine (k : Nat) (c : LineConfig) :
    policyParts (s.applyLine k c) = policyParts s := by
  unfold State.applyLine State.applyPolarity
  refine (policyParts_formMode _).trans ?_
  refine (policyParts_of_lasting (lasting_followActive _ _ _)).trans ?_
  exact policyParts_applyTrigger _ _ _

end

/-- A request whose handling changes neither the clock nor the active bank. -/
theorem serve_policyParts {mine : List Byte → Bool} {handle : List Byte → State → Reply}
    (hhandle : ∀ p u, policyParts (handle p u).state = policyParts u) (s : State) :
    Leaves (fun t => policyParts t = policyParts s) (.next (s.serve mine handle)) :=
  leaves_next (serve_preserves policyParts (fun _ _ => rfl) (fun _ _ _ _ => rfl) hhandle s)

/-- Can the command change the clock, or which bank is active, or what it holds? -/
def movesPolicy : Instr → Bool
  | .clockAdvance | .setTime | .switchBanks | .loadingEnd | .fullResetEnd | .restartMade => true
  | _ => false

/-- Every other command leaves the clock and the active bank as they were. -/
theorem exec_policyParts {c : Instr} (hc : movesPolicy c = false) (s : State) :
    Leaves (fun t => policyParts t = policyParts s) (exec c s) := by
  cases c with
  | clockAdvance | setTime | switchBanks | loadingEnd | fullResetEnd | restartMade =>
    exact absurd hc.symm Bool.false_ne_true
  | fullReset => exact leaves_next (policyParts_endSave s)
  -- a save
  | saveMarkCleared verified | saveSectorsErased verified | saveTablesProgrammed verified
  | saveMarkWritten verified =>
    refine leaves_next ?_
    split
    · rfl
    · split_ifs <;> rfl
  -- the policy tables, in the standby bank
  | writeProfile | writeTenant | writeLanding =>
    exact serve_policyParts (fun _ _ => checkChange_preserves rfl (checkIndex_preserves
      (checkField_preserves (policyParts_setStandby _ _)))) s
  | writeHoliday | eraseProfile | eraseTenant | eraseHoliday | eraseLanding =>
    exact serve_policyParts (fun _ _ => checkChange_preserves rfl (checkIndex_preserves
      (policyParts_setStandby _ _))) s
  | copyActiveToStandby =>
    exact serve_policyParts (fun _ _ => checkChange_preserves rfl (policyParts_setStandby _ _)) s
  -- the other tables
  | writeGroup | writeSkyLobby | writeFormat | writeFacilityRange =>
    exact serve_policyParts (fun _ _ => checkChange_preserves rfl (checkIndex_preserves
      (checkField_preserves rfl))) s
  | eraseSkyLobby | eraseFormat | eraseFacilityRange =>
    exact serve_policyParts (fun _ _ => checkChange_preserves rfl (checkIndex_preserves rfl)) s
  | eraseGroup =>
    exact serve_policyParts (fun _ _ => checkChange_preserves rfl (checkIndex_preserves
      (ite_preserves rfl rfl))) s
  | writeTerminal =>
    exact serve_policyParts (fun _ _ => checkChange_preserves rfl (checkIndex_preserves
      (checkField_preserves (policyParts_configureTerminal _ _ _)))) s
  | eraseTerminal =>
    exact serve_policyParts (fun _ _ => checkChange_preserves rfl (checkIndex_preserves
      (ite_preserves rfl (policyParts_eraseTerminal _ _)))) s
  | writeAlarmLine =>
    exact serve_policyParts (fun _ _ => checkChange_preserves rfl (checkIndex_preserves
      (checkField_preserves (acceptWith_preserves (policyParts_applyLine _ _ _))))) s
  | eraseAlarmLine =>
    exact serve_policyParts (fun _ _ => checkChange_preserves rfl (checkIndex_preserves
      (accept_preserves (policyParts_applyLine _ _ _)))) s
  | writeSettings =>
    refine serve_policyParts (fun _ _ => checkChange_preserves rfl (checkIndex_preserves ?_)) s
    split <;> rfl
  -- the other commands of the head-end
  | saveImage => exact serve_policyParts (fun _ _ => checkChange_preserves rfl rfl) s
  | startService | setSiteCode =>
    exact serve_policyParts (fun _ _ => checkCommand_preserves rfl (ite_preserves rfl rfl)) s
  | lockZones | unlockZones =>
    exact serve_policyParts (fun _ _ => checkCommand_preserves rfl rfl) s
  | enterRecall | leaveRecall =>
    exact serve_policyParts (fun _ _ => checkCommand_preserves rfl
      ((policyParts_formMode _).trans rfl)) s
  | _ => exact (exec_lasting rfl s).mono fun _ => policyParts_of_lasting

/-- The end of LOADING loads the tables and bears otherwise on the work in hand alone (R190). -/
theorem execLoadingEnd_lasting (s : State) :
    Leaves (fun t => t = s ∨ lasting t = lasting s.loadTables) (execLoadingEnd s) := by
  refine leaves_next ?_
  split
  · refine .inr ((lasting_foldl_startDebounce _ _).trans ?_)
    split_ifs <;> rfl
  · exact .inl rfl

theorem loadTables_clock_activeBank (s : State) :
    s.loadTables.clock = s.clock ∧ s.loadTables.activeBank = s.activeBank := by
  unfold State.loadTables
  split <;> exact ⟨rfl, rfl⟩

/-- The end of LOADING changes neither the clock nor which bank is active (R190). -/
theorem execLoadingEnd_clock_activeBank (s : State) :
    Leaves (fun t => t.clock = s.clock ∧ t.activeBank = s.activeBank) (execLoadingEnd s) := by
  refine (execLoadingEnd_lasting s).mono ?_
  rintro t (rfl | h)
  · exact ⟨rfl, rfl⟩
  · have hparts := policyParts_of_lasting h
    obtain ⟨hclock, hbank⟩ := loadTables_clock_activeBank s
    exact ⟨(congrArg Prod.fst hparts).trans hclock,
      (congrArg (fun x => x.2.1) hparts).trans hbank⟩

/-- Which bank is active, and the active bank's contents. -/
def activeParts (s : State) : BankName × PolicyBank := (policyParts s).2

/-- SET_TIME changes neither (R50). -/
theorem execSetTime_activeParts (s : State) :
    Leaves (fun t => activeParts t = activeParts s) (execSetTime s) :=
  leaves_next (serve_preserves activeParts (fun _ _ => rfl) (fun _ _ _ _ => rfl)
    (fun _ _ => checkCommand_preserves rfl (checkField_preserves (f := activeParts) rfl)) s)

theorem execClockAdvance_activeParts (s : State) :
    Leaves (fun t => activeParts t = activeParts s) (execClockAdvance s) := by
  refine leaves_next ?_
  split <;> rfl

/-- Settles O50: the clock's two commands and the end of LOADING are seen one by one, and every other command
is one that `exec_policyParts` speaks of. -/
theorem activeBankIsNotWritten : Obligations.ActiveBankIsNotWritten := by
  intro c s t ht hc
  have hactive : activeParts t = activeParts s →
      t.activeBank = s.activeBank ∧ (c ≠ .loadingEnd → t.active = s.active) := fun h =>
    ⟨congrArg Prod.fst h, fun _ => congrArg Prod.snd h⟩
  cases c with
  | switchBanks | fullResetEnd | restartMade => exact absurd (by simp) hc
  | loadingEnd => exact ⟨(execLoadingEnd_clock_activeBank s t ht).2, fun h => absurd rfl h⟩
  | setTime => exact hactive (execSetTime_activeParts s t ht)
  | clockAdvance => exact hactive (execClockAdvance_activeParts s t ht)
  | _ => exact hactive (congrArg Prod.snd (exec_policyParts rfl s t ht))

/-! ## The Week Clock (R48 to R50) -/

/-- A number of so many bytes is below that power of 256. -/
theorem natOfBytes_lt (bs : List Byte) : natOfBytes bs < 256 ^ bs.length := by
  have hfold : ∀ n, bs.foldl (fun n b => n * 256 + b.toNat) n < (n + 1) * 256 ^ bs.length := by
    induction bs with
    | nil => intro n; simp
    | cons b bs ih =>
      intro n
      refine (ih _).trans_le ?_
      rw [List.length_cons, pow_succ', ← Nat.mul_assoc]
      have hb : n * 256 + b.toNat + 1 ≤ (n + 1) * 256 := by have := b.isLt; omega
      exact Nat.mul_le_mul_right _ hb
  simpa [natOfBytes] using hfold 0

theorem numAt_lt (p : List Byte) (i k : Nat) : numAt p i k < 256 ^ k :=
  (natOfBytes_lt _).trans_le (Nat.pow_le_pow_right (by decide) (List.length_take_le _ _))

section
variable {s t : State}

theorem ClockInRange.of_clock (h : ClockInRange s) (e : t.clock = s.clock) : ClockInRange t := by
  unfold ClockInRange
  rw [e]
  exact h

/-- An advance stays within the ranges (R49). -/
theorem ClockInRange.advance (h : ClockInRange s) (e : t.clock = s.clock.advance) :
    ClockInRange t := by
  obtain ⟨hsecond, hminute, hday⟩ := h
  unfold ClockInRange
  rw [e, WeekClock.advance]
  split_ifs <;> dsimp only <;> omega

/-- An advance is one second, except that the last minute of day 65,535 is followed by its first (R49). -/
theorem secondsOf_advance (h : ClockInRange s) :
    secondsOf s.clock.advance =
      if s.clock.day = 65535 ∧ s.clock.minute = 1439 ∧ s.clock.second = 59 then 65535 * 86400
      else secondsOf s.clock + 1 := by
  obtain ⟨hsecond, hminute, hday⟩ := h
  unfold secondsOf WeekClock.advance
  split_ifs <;> dsimp only <;> omega

theorem advance_isSet (c : WeekClock) : c.advance.isSet = c.isSet := by
  unfold WeekClock.advance
  split_ifs <;> rfl

/-- CLOCK_ADVANCE, outside the full reset. -/
theorem exec_clockAdvance (h : s.resetHeld = false) :
    exec .clockAdvance s = .next { s with
      clock := s.clock.advance, now := max s.now s.nextSecond
      nextSecond := s.nextSecond + 1000 } :=
  congrArg Host.Outcome.next (if_neg (by rw [h]; decide))

theorem exec_setTime (s : State) :
    exec .setTime s = .next (s.serve (isOp 21) handleSetTime) := rfl

/-- A reading that SET_TIME takes is within the ranges (R50). -/
theorem handleSetTime_clockInRange (p : List Byte) (h : ClockInRange s) :
    ClockInRange (handleSetTime p s).state := by
  refine checkCommand_keeps h h ?_
  unfold State.checkField
  split
  · next hok =>
    simp only [Bool.and_eq_true, decide_eq_true_eq] at hok
    exact ⟨Nat.le_of_lt_succ hok.2, Nat.le_of_lt_succ hok.1, Nat.le_of_lt_succ (numAt_lt p 6 2)⟩
  · exact h

/-- Every command keeps the clock within its ranges. -/
theorem ClockInRange.exec (h : ClockInRange s) (c : Instr) : Leaves ClockInRange (exec c s) := by
  cases c with
  | clockAdvance =>
    refine leaves_next ?_
    split
    · exact h
    · exact h.advance rfl
  | setTime =>
    exact leaves_next (serve_keeps (fun _ _ hu => hu) (fun _ _ _ _ hu => hu)
      (fun p _ hu => handleSetTime_clockInRange p hu) h)
  | switchBanks =>
    exact leaves_next (serve_keeps (fun _ _ hu => hu) (fun _ _ _ _ hu => hu)
      (fun _ _ hu => checkChange_keeps hu hu hu) h)
  | loadingEnd => exact (execLoadingEnd_clock_activeBank s).mono fun _ e => h.of_clock e.1
  | fullResetEnd =>
    refine leaves_next ?_
    split
    · exact ⟨Nat.zero_le _, Nat.zero_le _, Nat.zero_le _⟩
    · exact h
  | restartMade =>
    refine leaves_next ?_
    split
    · exact h.of_clock (congrArg Prod.fst (policyParts_endSave s))
    · exact h
  | _ => exact (exec_policyParts rfl s).mono fun _ e => h.of_clock (congrArg Prod.fst e)

theorem ClockInRange.idle (h : ClockInRange s) : ClockInRange s.idle := by
  unfold State.idle
  split_ifs <;> exact h

end

/-- Settles O53: an advance and SET_TIME stay within the ranges, a full reset starts at day 0, and no other
command touches the clock (`exec_policyParts`). -/
theorem clockStaysInRange : Obligations.ClockStaysInRange :=
  kept_of_exec (fun _ h => h.idle) (fun _ _ h => h) fun _ c h => h.exec c

/-! ## Serving a command -/

section
variable {s : State} {p : List Byte} {rest : List (List Byte)} {op need : Nat} {c : Instr}
  {handle : List Byte → State → Reply}

/-- A command that is refused. -/
theorem Commanded.refused (h : Commanded s p rest op need)
    (hexec : exec c s = .next (s.serve (Machine.isOp op) handle)) {code : Code}
    (hh : handle p { s with requests := rest } = ({ s with requests := rest } : State).refuse code) :
    exec c s = .next (answered s p rest code []) :=
  hexec.trans (congrArg _ (h.asked.serve_refuse h.asked.isOp hh))

/-- A command that is carried out. -/
theorem Commanded.done (h : Commanded s p rest op need)
    (hexec : exec c s = .next (s.serve (Machine.isOp op) handle)) {t : State} {code : Code}
    {data : List Byte} (hh : handle p { s with requests := rest } = ⟨t, code, data⟩) :
    exec c s = .next
      { t with responses := t.responses ++ [⟨p.getD 0 0, p.getD 1 0, code, data⟩] } :=
  hexec.trans (congrArg _ (h.asked.serve_reply h.asked.isOp hh))

end

/-! ## The proof of O5 -/

/-- Settles O5: an advance by the laws of `WeekClock.advance`, SET_TIME by its field check. -/
theorem clockAdvancesAndIsSet : Obligations.ClockAdvancesAndIsSet := by
  refine ⟨fun s h hreset => ?_, fun s p rest h => ?_⟩
  · exact ⟨_, exec_clockAdvance hreset, h.advance rfl, secondsOf_advance h, advance_isSet _, rfl⟩
  · have hgood : (decide (numAt p 8 2 < 1440) && decide (numAt p 10 1 < 60)) = true ↔
        numAt p 8 2 < 1440 ∧ numAt p 10 1 < 60 := by simp
    split_ifs with hok
    · have hset := h.done (exec_setTime s) ((h.checkCommand _).trans
        (State.checkField_pass _ _ _ (hgood.2 hok)))
      exact hset
    · exact h.refused (exec_setTime s) ((h.checkCommand _).trans
        (checkField_refuse _ (mt hgood.1 hok) _))

end Sys2Proof.Safety
end

section
/-! SUPPORT. WRITE and ERASE of the policy tables, the exchange and copying of the banks, and the proofs of O37 and O45 (R4, R39 to R42, R44, R46, R47, R188). -/

namespace Sys2Proof.Safety

open Sys2Proof.Machine

/-! ## The standby bank (R39) -/

/-- A write of the standby bank changes nothing but the banks. -/
theorem setStandby_banks (s : State) (b : PolicyBank) :
    s.setStandby b = { s with tables := { s.tables with
      bankA := (s.setStandby b).tables.bankA, bankB := (s.setStandby b).tables.bankB } } := by
  unfold State.setStandby
  split <;> rfl

section
variable {s : State} {p : List Byte} {rest : List (List Byte)} {op table need : Nat} {c : Instr}
  {handle : List Byte → State → Reply} {k : Reply}

/-- What a command leaves that is answered and writes nothing but the standby bank, which becomes `b`. -/
def StandbyWritten (s : State) (p : List Byte) (rest : List (List Byte)) (code : Code)
    (data : List Byte) (b : PolicyBank) (t : State) : Prop :=
  (t.active = s.active ∧
    t = { answered s p rest code data with tables := { s.tables with
      bankA := t.tables.bankA, bankB := t.tables.bankB } }) ∧
  t.standby = b

/-- A write of the standby bank with the response placed. -/
theorem standbyWritten_setStandby (s : State) (p : List Byte) (rest : List (List Byte))
    (code : Code) (data : List Byte) (b : PolicyBank) :
    StandbyWritten s p rest code data b
      { ({ s with requests := rest } : State).setStandby b with
        responses := (({ s with requests := rest } : State).setStandby b).responses ++
          [⟨p.getD 0 0, p.getD 1 0, code, data⟩] } := by
  have hactive := State.setStandby_active { s with requests := rest } b
  have hstandby := State.setStandby_standby { s with requests := rest } b
  have hbanks := setStandby_banks { s with requests := rest } b
  generalize ({ s with requests := rest } : State).setStandby b = u at hactive hstandby hbanks ⊢
  refine ⟨⟨hactive, ?_⟩, hstandby⟩
  rw [hbanks]
  rfl

/-- A WRITE or ERASE that passes its table's own checks and writes the standby bank. -/
theorem Changing.standbyWritten (h : Changing s p rest op table need)
    (hexec : exec c s = .next (s.serve (Machine.isTableOp op table) handle))
    (hh : handle p { s with requests := rest } =
      ({ s with requests := rest } : State).checkChange p need k)
    {code : Code} {data : List Byte} {b : PolicyBank}
    (hk : k = ⟨({ s with requests := rest } : State).setStandby b, code, data⟩) :
    ∃ t, exec c s = .next t ∧ StandbyWritten s p rest code data b t :=
  ⟨_, h.done hexec hh hk, standbyWritten_setStandby s p rest code data b⟩

end

/-! ## The dispatch of the eight requests -/

theorem exec_writeProfile (s : State) :
    exec .writeProfile s = .next (s.serve (isTableOp 3 2) handleWriteProfile) := rfl

theorem exec_eraseProfile (s : State) :
    exec .eraseProfile s = .next (s.serve (isTableOp 4 2) handleEraseProfile) := rfl

theorem exec_writeTenant (s : State) :
    exec .writeTenant s = .next (s.serve (isTableOp 3 3) handleWriteTenant) := rfl

theorem exec_eraseTenant (s : State) :
    exec .eraseTenant s = .next (s.serve (isTableOp 4 3) handleEraseTenant) := rfl

theorem exec_writeHoliday (s : State) :
    exec .writeHoliday s = .next (s.serve (isTableOp 3 4) handleWriteHoliday) := rfl

theorem exec_eraseHoliday (s : State) :
    exec .eraseHoliday s = .next (s.serve (isTableOp 4 4) handleEraseHoliday) := rfl

theorem exec_writeLanding (s : State) :
    exec .writeLanding s = .next (s.serve (isTableOp 3 5) handleWriteLanding) := rfl

theorem exec_eraseLanding (s : State) :
    exec .eraseLanding s = .next (s.serve (isTableOp 4 5) handleEraseLanding) := rfl

/-! ## Which requests the tables' own checks let through -/

section
variable (s : State) (k : Reply) {i n : Nat}

theorem checkIndex_le_pass (h : i ≤ n) : s.checkIndex (decide (i ≤ n)) k = k :=
  State.checkIndex_pass _ _ _ (decide_eq_true h)

theorem checkIndex_le_refuse (h : n < i) :
    s.checkIndex (decide (i ≤ n)) k = s.refuse .badIndex :=
  checkIndex_refuse _ (mt of_decide_eq_true (not_le.2 h)) _

end

/-- What a table that has been written at one index reads as. -/
theorem get_of_set {α : Type} [DecidableEq α] {d v : α} {t u : Store α} {i : Nat}
    (h : t = u.set d i v) (j : Nat) : t.get d j = if j = i then v else u.get d j := by
  rw [h, Store.get_set]
  exact if_congr eq_comm rfl rfl

/-! ## The responses' data (12.4) -/

theorem boolByte_eq_byteOf {n : Nat} (h : n ≤ 1) : boolByte (decide (n = 1)) = byteOf n := by
  interval_cases n <;> rfl

theorem bandBytes_bandAt (p : List Byte) :
    bandBytes (bandAt p) = [byteOf (numAt p 10 1)] ++ bytesOfNat 2 (numAt p 11 2) ++
      bytesOfNat 2 (min 1440 (numAt p 13 2)) ++
      bytesOfNat 16 (BitVec.ofNat 128 (numAt p 15 16)).toNat := by
  have hdays : bytesOfNat 1 (BitVec.ofNat 8 (numAt p 10 1)).toNat = [byteOf (numAt p 10 1)] :=
    congrArg (fun b => [b]) (BitVec.eq_of_toNat_eq (by simp [byteOf]))
  rw [← hdays]
  rfl

theorem tenantBytes_tenantAt {p : List Byte} (h : numAt p 26 1 ≤ 1) :
    tenantBytes (tenantAt p) =
      bytesOfNat 16 (BitVec.ofNat 128 (numAt p 10 16)).toNat ++ [byteOf (numAt p 26 1)] := by
  rw [← boolByte_eq_byteOf h]
  rfl

theorem landingBytes_landingAt {p : List Byte} (hcommon : numAt p 11 1 ≤ 1)
    (hservice : numAt p 12 1 ≤ 1) :
    landingBytes (landingAt p) =
      [byteOf (numAt p 10 1), byteOf (numAt p 11 1), byteOf (numAt p 12 1)] := by
  rw [← boolByte_eq_byteOf hcommon, ← boolByte_eq_byteOf hservice]
  rfl

/-! ## WRITE (R4, R44, R46, R47) -/

section
variable {s : State} {p : List Byte} {rest : List (List Byte)}

/-- A WRITE of a band with index, start and length within their ranges; a longer length is clamped (R44). -/
theorem writeProfile_stores (h : Changing s p rest 3 2 31) (hi : numAt p 8 2 ≤ 1023)
    (hstart : numAt p 11 2 < 1440) (hlength : 1 ≤ numAt p 13 2) :
    ∃ t, exec .writeProfile s = .next t ∧
      StandbyWritten s p rest (if 1440 < numAt p 13 2 then .okClamped else .ok)
        ([byteOf (numAt p 10 1)] ++ bytesOfNat 2 (numAt p 11 2) ++
          bytesOfNat 2 (min 1440 (numAt p 13 2)) ++
          bytesOfNat 16 (BitVec.ofNat 128 (numAt p 15 16)).toNat)
        { s.standby with
          profiles := s.standby.profiles.set none (numAt p 8 2) (some (bandAt p)) } t := by
  refine h.standbyWritten (exec_writeProfile s) rfl ((checkIndex_le_pass _ _ hi).trans
    ((State.checkField_pass _ _ _ (by simp [hstart, hlength])).trans ?_))
  rw [bandBytes_bandAt, State.acceptWith]
  simp only [decide_eq_true_eq]
  rfl

theorem writeTenant_stores (h : Changing s p rest 3 3 27) (hi : numAt p 8 2 ≤ 63)
    (hstate : numAt p 26 1 ≤ 1) :
    ∃ t, exec .writeTenant s = .next t ∧
      StandbyWritten s p rest .ok
        (bytesOfNat 16 (BitVec.ofNat 128 (numAt p 10 16)).toNat ++ [byteOf (numAt p 26 1)])
        { s.standby with
          tenants := s.standby.tenants.set {} (numAt p 8 2) (tenantAt p) } t := by
  refine h.standbyWritten (exec_writeTenant s) rfl ((checkIndex_le_pass _ _ hi).trans
    ((State.checkField_pass _ _ _ (decide_eq_true hstate)).trans ?_))
  rw [tenantBytes_tenantAt hstate]
  rfl

theorem writeLanding_stores (h : Changing s p rest 3 5 13) (hi : numAt p 8 2 ≤ 127)
    (hzone : numAt p 10 1 ≤ 15) (hcommon : numAt p 11 1 ≤ 1) (hservice : numAt p 12 1 ≤ 1) :
    ∃ t, exec .writeLanding s = .next t ∧
      StandbyWritten s p rest .ok
        [byteOf (numAt p 10 1), byteOf (numAt p 11 1), byteOf (numAt p 12 1)]
        { s.standby with
          landings := s.standby.landings.set {} (numAt p 8 2) (landingAt p) } t := by
  refine h.standbyWritten (exec_writeLanding s) rfl ((checkIndex_le_pass _ _ hi).trans
    ((State.checkField_pass _ _ _ (by simp [hzone, hcommon, hservice])).trans ?_))
  rw [landingBytes_landingAt hcommon hservice]
  rfl

/-- A WRITE or ERASE whose table checks the index alone. -/
theorem Changing.storedAtIndex {op table need n : Nat} {c : Instr}
    {handle : List Byte → State → Reply} {data : List Byte} {b : PolicyBank}
    (h : Changing s p rest op table need)
    (hexec : exec c s = .next (s.serve (Machine.isTableOp op table) handle))
    (hh : handle p { s with requests := rest } =
      ({ s with requests := rest } : State).checkChange p need
        (({ s with requests := rest } : State).checkIndex (decide (numAt p 8 2 ≤ n))
          ⟨({ s with requests := rest } : State).setStandby b, .ok, data⟩)) :
    (n < numAt p 8 2 → exec c s = .next (answered s p rest .badIndex [])) ∧
    (numAt p 8 2 ≤ n → ∃ t, exec c s = .next t ∧ StandbyWritten s p rest .ok data b t) :=
  ⟨fun hi => h.refused hexec hh (checkIndex_le_refuse _ _ hi),
    fun hi => h.standbyWritten hexec hh (checkIndex_le_pass _ _ hi)⟩

end

/-- Settles O45: what passes its table's checks writes the standby bank (`StandbyWritten`), and the record is
read back by `get_of_set`; the rest is refused by the check that its rule names. -/
theorem policyTablesAreWrittenInStandby : Obligations.PolicyTablesAreWrittenInStandby := by
  refine ⟨fun s p rest => ?_, fun s p rest => ?_⟩
  · intro i byte stored refused
    refine ⟨fun h => ?_, fun h => ?_, fun h => ?_, fun h => ?_⟩
    · refine ⟨fun hi => ?_, fun hi hbad => ?_, fun hi hstart hlength => ?_⟩
      · exact h.refused (exec_writeProfile s) rfl (checkIndex_le_refuse _ _ hi)
      · have hnot : ¬ (decide (numAt p 11 2 < 1440) && decide (1 ≤ numAt p 13 2)) = true := by
          simp only [Bool.and_eq_true, decide_eq_true_eq]
          omega
        exact h.refused (exec_writeProfile s) rfl ((checkIndex_le_pass _ _ hi).trans
          (checkField_refuse _ hnot _))
      · obtain ⟨t, hexec, hrest, hbank⟩ := writeProfile_stores h hi hstart hlength
        exact ⟨t, ⟨hexec, hrest⟩, by rw [hbank], get_of_set (congrArg PolicyBank.profiles hbank)⟩
    · refine ⟨fun hi => ?_, fun hi hbad => ?_, fun hi hstate => ?_⟩
      · exact h.refused (exec_writeTenant s) rfl (checkIndex_le_refuse _ _ hi)
      · exact h.refused (exec_writeTenant s) rfl ((checkIndex_le_pass _ _ hi).trans
          (checkField_refuse _ (mt of_decide_eq_true (not_le.2 hbad)) _))
      · obtain ⟨t, hexec, hrest, hbank⟩ := writeTenant_stores h hi hstate
        exact ⟨t, ⟨hexec, hrest⟩, by rw [hbank], get_of_set (congrArg PolicyBank.tenants hbank)⟩
    · refine (h.storedAtIndex (exec_writeHoliday s) rfl).imp_right fun hstored hi => ?_
      obtain ⟨t, hexec, hrest, hbank⟩ := hstored hi
      exact ⟨t, ⟨hexec, hrest⟩, by rw [hbank]; rfl, get_of_set (congrArg PolicyBank.holidays hbank)⟩
    · refine ⟨fun hi => ?_, fun hi hbad => ?_, fun hi hzone hcommon hservice => ?_⟩
      · exact h.refused (exec_writeLanding s) rfl (checkIndex_le_refuse _ _ hi)
      · have hnot : ¬ (decide (numAt p 10 1 ≤ 15) && decide (numAt p 11 1 ≤ 1) &&
            decide (numAt p 12 1 ≤ 1)) = true := by
          change 15 < numAt p 10 1 ∨ 1 < numAt p 11 1 ∨ 1 < numAt p 12 1 at hbad
          simp only [Bool.and_eq_true, decide_eq_true_eq]
          omega
        exact h.refused (exec_writeLanding s) rfl ((checkIndex_le_pass _ _ hi).trans
          (checkField_refuse _ hnot _))
      · obtain ⟨t, hexec, hrest, hbank⟩ := writeLanding_stores h hi hzone hcommon hservice
        exact ⟨t, ⟨hexec, hrest⟩, by rw [hbank], get_of_set (congrArg PolicyBank.landings hbank)⟩
  · intro i erased refused
    refine ⟨fun h => ?_, fun h => ?_, fun h => ?_, fun h => ?_⟩
    · refine (h.storedAtIndex (exec_eraseProfile s) rfl).imp_right fun hstored hi => ?_
      obtain ⟨t, hexec, hrest, hbank⟩ := hstored hi
      exact ⟨t, ⟨hexec, hrest⟩, by rw [hbank]; rfl, get_of_set (congrArg PolicyBank.profiles hbank)⟩
    · refine (h.storedAtIndex (exec_eraseTenant s) rfl).imp_right fun hstored hi => ?_
      obtain ⟨t, hexec, hrest, hbank⟩ := hstored hi
      exact ⟨t, ⟨hexec, hrest⟩, by rw [hbank]; rfl, get_of_set (congrArg PolicyBank.tenants hbank)⟩
    · refine (h.storedAtIndex (exec_eraseHoliday s) rfl).imp_right fun hstored hi => ?_
      obtain ⟨t, hexec, hrest, hbank⟩ := hstored hi
      exact ⟨t, ⟨hexec, hrest⟩, by rw [hbank]; rfl, get_of_set (congrArg PolicyBank.holidays hbank)⟩
    · refine (h.storedAtIndex (exec_eraseLanding s) rfl).imp_right fun hstored hi => ?_
      obtain ⟨t, hexec, hrest, hbank⟩ := hstored hi
      exact ⟨t, ⟨hexec, hrest⟩, by rw [hbank]; rfl, get_of_set (congrArg PolicyBank.landings hbank)⟩

/-! ## The exchange of the banks, copying and saving (R40 to R42, R188) -/

@[simp] theorem other_other (n : BankName) : n.other.other = n := by
  cases n <;> rfl

theorem other_ne (n : BankName) : n.other ≠ n := by
  cases n <;> decide

/-- A command that is refused during a save reaches its effect without one. -/
theorem Commanded.checkChange {s : State} {p : List Byte} {rest : List (List Byte)}
    {op need : Nat} (h : Commanded s p rest op need) (hsaving : s.saving = none) (k : Reply) :
    ({ s with requests := rest } : State).checkChange p need k = k :=
  State.checkChange_pass _ p need k h.asked.length h.code hsaving

theorem exec_switchBanks (s : State) :
    exec .switchBanks s = .next (s.serve (isOp 16) handleSwitchBanks) := rfl

theorem exec_copyActiveToStandby (s : State) :
    exec .copyActiveToStandby s = .next (s.serve (isOp 17) handleCopyActiveToStandby) := rfl

theorem exec_saveImage (s : State) :
    exec .saveImage s = .next (s.serve (isOp 18) handleSaveImage) := rfl

/-- Settles O37: the exchange writes the name of the active bank alone, the copy the standby bank alone. -/
theorem banksAndSnapshots : Obligations.BanksAndSnapshots := by
  intro s p rest hsaving a
  refine ⟨fun h => ?_, fun h => ?_, fun h => ?_⟩
  · refine ⟨_, h.done (exec_switchBanks s) (h.checkChange hsaving _), rfl, other_ne _, rfl, ?_⟩
    exact congrArg s.bank (other_other s.activeBank)
  · have hcopied := standbyWritten_setStandby s p rest .ok [] s.active
    obtain ⟨⟨hactive, hframe⟩, hstandby⟩ := hcopied
    exact ⟨_, h.done (exec_copyActiveToStandby s) (h.checkChange hsaving _), hframe, hactive,
      hstandby⟩
  · have hsaved := h.done (exec_saveImage s) (h.checkChange hsaving _)
    exact hsaved

end Sys2Proof.Safety
end

section
/-! SUPPORT. The band-in-force test as a span of minutes, and the proof of O15 (R53 to R55). -/

namespace Sys2Proof.Safety

open Sys2Proof.Machine

/-- The two conditions of R55. -/
theorem bandInForce_iff (s : State) (b : Band) :
    s.bandInForce b = true ↔ s.clock.isSet = true ∧
      ((memSet b.days (s.dayType s.clock.day) = true ∧
          b.start ≤ s.clock.minute ∧ s.clock.minute < b.start + b.length) ∨
        (1440 < b.start + b.length ∧ s.clock.day ≠ 0 ∧
          memSet b.days (s.dayType (s.clock.day - 1)) = true ∧
          s.clock.minute < b.start + b.length - 1440)) := by
  simp only [State.bandInForce, Bool.and_eq_true, Bool.or_eq_true, decide_eq_true_eq, and_assoc]

/-- A moment at most 1,440 minutes after a start within a day falls on that day or on the next. -/
theorem day_of_span {day today start length minute : Nat} (hday : day ≤ today)
    (hstart : start < 1440) (hlength : length ≤ 1440) (hminute : minute < 1440)
    (hend : today * 1440 + minute < day * 1440 + start + length) :
    day = today ∨ day + 1 = today := by
  omega

/-- A day is HOLIDAY when the active Holiday List has it, and has its day of the week otherwise (R53, R54). -/
theorem dayType_eq (s : State) (d : Nat) :
    s.dayType d = if ∃ e ∈ s.active.holidays, e.2 = some d then 7
      else (d + s.tables.settings.epochWeekday) % 7 :=
  if_congr (by simp [State.holiday]) rfl rfl

/-- Settles O15: the two conditions of R55 are those of today and of yesterday, the only days whose span can
hold the moment (`day_of_span`). -/
theorem bandInForceIsASpanOfMinutes : Obligations.BandInForceIsASpanOfMinutes := by
  refine ⟨fun s b hstart hlength hminute => ?_, dayType_eq⟩
  rw [bandInForce_iff]
  refine and_congr_right fun _ => ⟨?_, ?_⟩
  · rintro (⟨htype, hbegun, hend⟩ | ⟨hover, hday, htype, hend⟩)
    · exact ⟨s.clock.day, le_rfl, htype, by omega, by omega⟩
    · exact ⟨s.clock.day - 1, Nat.sub_le _ _, htype, by omega, by omega⟩
  · rintro ⟨day, hday, htype, hbegun, hend⟩
    rcases day_of_span hday hstart hlength hminute hend with rfl | hnext
    · exact .inl ⟨htype, by omega, by omega⟩
    · rw [show day = s.clock.day - 1 by omega] at htype
      exact .inr ⟨by omega, by omega, htype, by omega⟩

end Sys2Proof.Safety
end

section
/-! SUPPORT. The invariants hold after reset: the proof of O52 (R190, R192). -/

namespace Sys2Proof.Safety

open Sys2Proof.Machine

/-- A property of the tables at their reset contents holds of all tables after reset, where there is neither
an image nor a save. -/
theorem everyTables_reset {good : Tables → Prop} (h : good {}) : EveryTables good State.reset :=
  ⟨h, nofun, nofun⟩

theorem answersWithin_reset : AnswersWithin State.reset :=
  ⟨Nat.zero_le _, List.nodup_nil, fun _ ha => absurd ha List.not_mem_nil, nofun, nofun⟩

theorem limitsWithin_reset : LimitsWithin {} :=
  ⟨fun _ => show 4 ≤ 16 by decide, nofun⟩

theorem callsOfTrips_reset (g : Nat) (st : TripState) : CallsOfTrips State.reset g [] st :=
  ⟨List.nodup_nil, nofun, nofun⟩

theorem callsWithin_reset : CallsWithin State.reset :=
  ⟨everyTables_reset limitsWithin_reset, Nat.zero_le _, List.nodup_nil, List.nodup_nil, nofun,
    fun g => ⟨Nat.zero_le _, Nat.zero_le _, callsOfTrips_reset g _, callsOfTrips_reset g _⟩⟩

theorem fifosWithin_reset : FifosWithin State.reset :=
  ⟨Nat.zero_le _, Nat.zero_le _, Nat.zero_le _, Nat.zero_le _, Nat.zero_le _, Nat.zero_le _,
    Nat.zero_le _, answersWithin_reset, callsWithin_reset⟩

theorem bankCanonical_empty : BankCanonical {} := ⟨rfl, rfl, rfl, rfl⟩

theorem canonical_reset : Canonical State.reset :=
  ⟨everyTables_reset ⟨bankCanonical_empty, bankCanonical_empty, rfl, rfl, rfl, rfl, rfl, rfl, rfl⟩,
    rfl, rfl, rfl, rfl, rfl⟩

theorem credentialTableSound_reset : CredentialTableSound State.reset :=
  ⟨everyTables_reset credentialsSound_empty, rfl, Nat.zero_le _⟩

theorem terminalsSound_reset : TerminalsSound State.reset :=
  ⟨nofun, everyTables_reset (show 3 ≤ 7 by decide), fun _ => Nat.zero_le _⟩

/-- Every line stands at NORMAL, and the recall flag is clear (R147, R155). -/
theorem modeFollows_reset : ModeFollows State.reset := by
  refine ⟨⟨nofun, ?_⟩, fun _ => ⟨rfl, rfl⟩⟩
  rintro (hflag | ⟨k, -, hstatus, -⟩)
  · exact absurd hflag Bool.false_ne_true
  · exact absurd rfl hstatus

/-- Settles O52: after reset no FIFO and no table lists anything. -/
theorem resetHasTheInvariants : Obligations.ResetHasTheInvariants :=
  ⟨⟨Nat.zero_le _, Nat.zero_le _, Nat.zero_le _⟩, fifosWithin_reset, canonical_reset,
    credentialTableSound_reset, terminalsSound_reset, modeFollows_reset, List.nodup_nil⟩

end Sys2Proof.Safety
end

section
/-! SUPPORT. The refutation of O58: a Store of group states that lists an index twice. -/

namespace Sys2Proof.Safety

open Sys2Proof.Machine

/-- Group 1 is listed twice, and reads as its first record: a queued call, and streak 0. The second record, whose
streak is 4, is not read. An ENTER_RECALL waits to be handled. -/
def groupListedTwice : State where
  partState := .running
  groups := [(1, { queue := [⟨1, 1, 1, 0, 1, false, .oneOfOne⟩] }), (1, { streak := 4 })]
  requests := [[0, 29, 0, 0, 0, 0]]
  pending := [.enterRecall]

/-- The first record alone is read, so that every streak is 0. -/
theorem terminalsSound_groupListedTwice : TerminalsSound groupListedTwice := by
  refine ⟨nofun, ⟨show 3 ≤ 7 by decide, nofun, nofun⟩, fun g => ?_⟩
  by_cases hg : g = 1
  · subst hg
    decide
  · have hdefault : groupListedTwice.group g = {} :=
      Store.get_of_not_listed _ _ _ (by simp [groupListedTwice, Ne.symm hg])
    rw [hdefault]
    decide

/-- Recall entry takes the call of the first record, which is then at the reset contents and listed no more: the
second record is read, with a streak above 3 (R142). -/
theorem step_groupListedTwice :
    ∃ t, step groupListedTwice = .next t ∧ (t.group 1).streak = 4 :=
  ⟨_, rfl, by decide⟩

/-- Refutes O58: the statement speaks of the group states as they are read, and does not ask that the table be in
canonical form. `groupListedTwice` lists group 1 twice, and an ENTER_RECALL uncovers the record that was not
read. -/
theorem not_terminalsStaySound : ¬ Obligations.TerminalsStaySound := by
  intro h
  obtain ⟨t, ht, hstreak⟩ := step_groupListedTwice
  have hbound : (t.group 1).streak ≤ 3 := (h _ t terminalsSound_groupListedTwice ht).2.2 1
  omega

end Sys2Proof.Safety
end

section
/-! SUPPORT. The Trip List and the calls of its trips as one ledger: what keeps it in order when trips leave, advance and come (R107, R109, R126 to R128). -/

namespace Sys2Proof.Safety

open Sys2Proof.Machine

/-! ## The calls of a list of trips -/

/-- `CallsOfTrips` speaks of the state's trips alone. -/
def Listed (trips : List Trip) (g : Nat) (calls : List Call) (st : TripState) : Prop :=
  (calls.map (fun c => c.trip)).Nodup ∧
    (∀ c ∈ calls, ∃ x ∈ trips, x.number = c.trip ∧ x.tag = c.tag ∧ x.group = g ∧ x.state = st) ∧
    ∀ x ∈ trips, x.group = g → x.state = st → ∃ c ∈ calls, c.trip = x.number

theorem callsOfTrips_iff {s : State} {g : Nat} {calls : List Call} {st : TripState} :
    CallsOfTrips s g calls st ↔ Listed s.trips g calls st := Iff.rfl

theorem eq_of_number_eq {trips : List Trip} (h : (trips.map (fun x => x.number)).Nodup) {x y : Trip}
    (hx : x ∈ trips) (hy : y ∈ trips) (hn : x.number = y.number) : x = y :=
  List.inj_on_of_nodup_map h hx hy hn

section
variable {trips trips' : List Trip} {g : Nat} {calls calls' : List Call} {st : TripState} {x : Trip}
  {c : Call}

theorem Listed.perm (h : Listed trips g calls st) (hp : trips.Perm trips') :
    Listed trips' g calls st := by
  obtain ⟨hnodup, hsound, hcomplete⟩ := h
  simp only [hp.mem_iff] at hsound hcomplete
  exact ⟨hnodup, hsound, hcomplete⟩

/-- A trip of another group or in another state has no call here. -/
theorem Listed.cons (h : Listed trips g calls st) (hx : ¬ (x.group = g ∧ x.state = st)) :
    Listed (x :: trips) g calls st := by
  obtain ⟨hnodup, hsound, hcomplete⟩ := h
  refine ⟨hnodup, fun c hc => ?_, fun y hy hg hst => ?_⟩
  · obtain ⟨y, hy, hcall⟩ := hsound c hc
    exact ⟨y, List.mem_cons_of_mem x hy, hcall⟩
  · rcases List.mem_cons.1 hy with rfl | hy
    · exact absurd ⟨hg, hst⟩ hx
    · exact hcomplete y hy hg hst

/-- A new trip comes with its call. -/
theorem Listed.cons_call (h : Listed trips x.group calls x.state)
    (hnew : x.number ∉ trips.map (fun y => y.number)) (hnumber : c.trip = x.number)
    (htag : c.tag = x.tag) : Listed (x :: trips) x.group (calls ++ [c]) x.state := by
  obtain ⟨hnodup, hsound, hcomplete⟩ := h
  refine ⟨?_, fun d hd => ?_, fun y hy hg hst => ?_⟩
  · rw [List.map_append]
    refine List.nodup_append.2 ⟨hnodup, List.nodup_singleton _, ?_⟩
    intro n hn m hm hnm
    obtain ⟨d, hd, rfl⟩ := List.mem_map.1 hn
    obtain ⟨y, hy, hyd, -⟩ := hsound d hd
    exact hnew (List.mem_map.2
      ⟨y, hy, hyd.trans (hnm.trans ((List.mem_singleton.1 hm).trans hnumber))⟩)
  · rcases List.mem_append.1 hd with hd | hd
    · obtain ⟨y, hy, hcall⟩ := hsound d hd
      exact ⟨y, List.mem_cons_of_mem x hy, hcall⟩
    · obtain rfl := List.mem_singleton.1 hd
      exact ⟨x, List.mem_cons_self, hnumber.symm, htag.symm, rfl, rfl⟩
  · rcases List.mem_cons.1 hy with rfl | hy
    · exact ⟨c, by simp, hnumber⟩
    · obtain ⟨d, hd, hdy⟩ := hcomplete y hy hg hst
      exact ⟨d, List.mem_append_left _ hd, hdy⟩

/-- Trips leave, and with them exactly their calls. -/
theorem Listed.restrict (h : Listed trips g calls st)
    (hnumbers : (trips.map (fun x => x.number)).Nodup) (htrips : trips' ⊆ trips)
    (hcalls : calls'.Sublist calls)
    (hleft : ∀ c ∈ calls, c ∈ calls' ↔ c.trip ∈ trips'.map (fun x => x.number)) :
    Listed trips' g calls' st := by
  obtain ⟨hnodup, hsound, hcomplete⟩ := h
  refine ⟨hnodup.sublist (hcalls.map _), fun c hc => ?_, fun x hx hg hst => ?_⟩
  · obtain ⟨x, hx, hnumber, hcall⟩ := hsound c (hcalls.subset hc)
    obtain ⟨y, hy, hyc⟩ := List.mem_map.1 ((hleft c (hcalls.subset hc)).1 hc)
    rw [eq_of_number_eq hnumbers (htrips hy) hx (hyc.trans hnumber.symm)] at hy
    exact ⟨x, hy, hnumber, hcall⟩
  · obtain ⟨c, hc, hcx⟩ := hcomplete x (htrips hx) hg hst
    exact ⟨c, (hleft c hc).2 (hcx ▸ List.mem_map_of_mem hx), hcx⟩

end

/-! ## The ledger -/

/-- Is it a state of a trip that has a call? -/
def TripState.hasCall (st : TripState) : Prop := st = .queued ∨ st = .called

theorem settled_eq_false_iff (x : Trip) : x.settled = false ↔ TripState.hasCall x.state := by
  unfold Trip.settled TripState.hasCall
  cases x.state <;> simp

/-- A Trip List and the calls of each group, by the state of their trips, in the order that R107, R109 and R126
to R128 ask for. -/
structure Ledger (trips : List Trip) (calls : TripState → Nat → List Call) : Prop where
  room : trips.length ≤ 512
  numbers : (trips.map (fun x => x.number)).Nodup
  tags : (trips.map (fun x => x.tag)).Nodup
  groups : ∀ x ∈ trips, x.settled = false → 1 ≤ x.group ∧ x.group ≤ 6
  queueRoom : ∀ g, (calls .queued g).length ≤ 8
  tableRoom : ∀ g, (calls .called g).length ≤ 16
  listed : ∀ st g, TripState.hasCall st → Listed trips g (calls st g) st

section
variable {trips trips' : List Trip} {calls calls' : TripState → Nat → List Call} {x : Trip} {c : Call}
  {st : TripState} {g : Nat}

theorem Ledger.perm (h : Ledger trips calls) (hp : trips.Perm trips') : Ledger trips' calls where
  room := hp.length_eq ▸ h.room
  numbers := (hp.map _).nodup_iff.1 h.numbers
  tags := (hp.map _).nodup_iff.1 h.tags
  groups x hx := h.groups x (hp.mem_iff.2 hx)
  queueRoom := h.queueRoom
  tableRoom := h.tableRoom
  listed st g hst := (h.listed st g hst).perm hp

/-- The trip of a call. -/
theorem Ledger.trip_of_call (h : Ledger trips calls) (hst : TripState.hasCall st)
    (hc : c ∈ calls st g) :
    ∃ x ∈ trips, x.number = c.trip ∧ x.tag = c.tag ∧ x.group = g ∧ x.state = st :=
  (h.listed st g hst).2.1 c hc

/-- Trips leave, and with them exactly their calls. -/
theorem Ledger.restrict (h : Ledger trips calls) (htrips : trips'.Sublist trips)
    (hcalls : ∀ st g, (calls' st g).Sublist (calls st g))
    (hleft : ∀ st g, TripState.hasCall st → ∀ c ∈ calls st g,
      c ∈ calls' st g ↔ c.trip ∈ trips'.map (fun x => x.number)) : Ledger trips' calls' where
  room := htrips.length_le.trans h.room
  numbers := h.numbers.sublist (htrips.map _)
  tags := h.tags.sublist (htrips.map _)
  groups x hx := h.groups x (htrips.subset hx)
  queueRoom g := (hcalls _ g).length_le.trans (h.queueRoom g)
  tableRoom g := (hcalls _ g).length_le.trans (h.tableRoom g)
  listed st g hst :=
    (h.listed st g hst).restrict h.numbers htrips.subset (hcalls st g) (hleft st g hst)

/-- Settled trips have no call, and may leave. -/
theorem Ledger.drop_settled (h : Ledger trips calls) (htrips : trips'.Sublist trips)
    (hkeep : ∀ x ∈ trips, x.settled = false → x ∈ trips') : Ledger trips' calls := by
  refine h.restrict htrips (fun _ _ => List.Sublist.refl _) fun st g hst c hc => ?_
  obtain ⟨x, hx, hnumber, -, -, hstate⟩ := h.trip_of_call hst hc
  refine iff_of_true hc (List.mem_map.2 ⟨x, hkeep x hx ?_, hnumber⟩)
  exact (settled_eq_false_iff x).2 (hstate ▸ hst)

/-- The trips whose numbers pass a test stay, and with them exactly their calls. -/
theorem Ledger.filter (h : Ledger trips calls) (keep : Nat → Bool)
    (hcalls : ∀ st g, (calls' st g).Sublist (calls st g))
    (hleft : ∀ st g, TripState.hasCall st → ∀ c ∈ calls st g,
      c ∈ calls' st g ↔ keep c.trip = true) :
    Ledger (trips.filter (fun x => keep x.number)) calls' := by
  refine h.restrict List.filter_sublist hcalls fun st g hst c hc => ?_
  obtain ⟨x, hx, hnumber, -⟩ := h.trip_of_call hst hc
  rw [hleft st g hst c hc, List.mem_map, ← hnumber]
  constructor
  · exact fun hk => ⟨x, List.mem_filter.2 ⟨hx, hk⟩, rfl⟩
  · rintro ⟨y, hy, hyx⟩
    exact hyx ▸ (List.mem_filter.1 hy).2

/-- A settled trip comes. -/
theorem Ledger.cons_settled (h : Ledger trips calls) (hroom : trips.length < 512)
    (hnumber : x.number ∉ trips.map (fun y => y.number)) (htag : x.tag ∉ trips.map (fun y => y.tag))
    (hx : x.settled = true) : Ledger (x :: trips) calls where
  room := hroom
  numbers := List.nodup_cons.2 ⟨hnumber, h.numbers⟩
  tags := List.nodup_cons.2 ⟨htag, h.tags⟩
  groups y hy hset := by
    rcases List.mem_cons.1 hy with rfl | hy
    · exact absurd (hx.symm.trans hset) (by decide)
    · exact h.groups y hy hset
  queueRoom := h.queueRoom
  tableRoom := h.tableRoom
  listed st g hst := by
    refine (h.listed st g hst).cons fun hg => ?_
    have hset := (settled_eq_false_iff x).2 (hg.2 ▸ hst)
    exact absurd (hx.symm.trans hset) (by decide)

/-- A trip comes with its call. -/
theorem Ledger.cons_call (h : Ledger trips calls) (hroom : trips.length < 512)
    (hnumber : x.number ∉ trips.map (fun y => y.number)) (htag : x.tag ∉ trips.map (fun y => y.tag))
    (hgroup : 1 ≤ x.group ∧ x.group ≤ 6) (hcall : c.trip = x.number ∧ c.tag = x.tag)
    (hcalls : ∀ st g, TripState.hasCall st → calls' st g =
      if x.state = st ∧ x.group = g then calls st g ++ [c] else calls st g)
    (hqueue : x.state = .queued → (calls .queued x.group).length < 8)
    (htable : x.state = .called → (calls .called x.group).length < 16) :
    Ledger (x :: trips) calls' where
  room := hroom
  numbers := List.nodup_cons.2 ⟨hnumber, h.numbers⟩
  tags := List.nodup_cons.2 ⟨htag, h.tags⟩
  groups y hy hset := by
    rcases List.mem_cons.1 hy with rfl | hy
    · exact hgroup
    · exact h.groups y hy hset
  queueRoom g := by
    rw [hcalls _ g (.inl rfl)]
    split_ifs with hg
    · obtain ⟨hst, rfl⟩ := hg
      simpa using hqueue hst
    · exact h.queueRoom g
  tableRoom g := by
    rw [hcalls _ g (.inr rfl)]
    split_ifs with hg
    · obtain ⟨hst, rfl⟩ := hg
      simpa using htable hst
    · exact h.tableRoom g
  listed st g hst := by
    rw [hcalls st g hst]
    split_ifs with hg
    · obtain ⟨rfl, rfl⟩ := hg
      exact (h.listed _ _ hst).cons_call hnumber hcall.1 hcall.2
    · exact (h.listed st g hst).cons fun e => hg ⟨e.2, e.1⟩

end

end Sys2Proof.Safety
end

section
/-! SUPPORT. The ledger of a state, and the operations that take a trip's call away or put one in: each leaves the ledger in order (07, 06). -/

namespace Sys2Proof.Safety

open Sys2Proof.Machine

/-! ## One trip of the ledger -/

section
variable {trips : List Trip} {calls calls' : TripState → Nat → List Call} {x : Trip}

/-- A trip whose record is changed in its place, before all the others. -/
theorem update_perm (h : (trips.map (fun y => y.number)).Nodup) (hx : x ∈ trips)
    (f : Trip → Trip) :
    (trips.map (fun y => if y.number = x.number then f y else y)).Perm
      (f x :: trips.filter (fun y => y.number ≠ x.number)) := by
  obtain ⟨older, younger, rfl⟩ := List.append_of_mem hx
  have hother : ∀ y ∈ older ++ younger, y.number ≠ x.number := by
    intro y hy hn
    rw [List.map_append, List.map_cons, List.nodup_middle, List.nodup_cons] at h
    exact h.1 (by rw [← hn, ← List.map_append]; exact List.mem_map_of_mem hy)
  have hmap : ∀ ys ⊆ older ++ younger,
      ys.map (fun y => if y.number = x.number then f y else y) = ys := fun ys hys =>
    (List.map_congr_left fun y hy => if_neg (hother y (hys hy))).trans (List.map_id' ys)
  have hfilter : ∀ ys ⊆ older ++ younger, ys.filter (fun y => y.number ≠ x.number) = ys :=
    fun ys hys => List.filter_eq_self.2 fun y hy => decide_eq_true (hother y (hys hy))
  rw [List.map_append, List.map_cons, if_pos rfl, hmap older (List.subset_append_left ..),
    hmap younger (List.subset_append_right ..), List.filter_append,
    List.filter_cons_of_neg (by simp), hfilter older (List.subset_append_left ..),
    hfilter younger (List.subset_append_right ..)]
  exact List.perm_middle

/-- The trips but one have room for one, and neither its number nor its tag is among theirs. -/
theorem Ledger.others (h : Ledger trips calls) (hx : x ∈ trips) :
    (trips.filter (fun y => y.number ≠ x.number)).length < 512 ∧
      x.number ∉ (trips.filter (fun y => y.number ≠ x.number)).map (fun y => y.number) ∧
      x.tag ∉ (trips.filter (fun y => y.number ≠ x.number)).map (fun y => y.tag) := by
  have hp := update_perm h.numbers hx id
  simp only [id_eq, ite_self, List.map_id'] at hp
  have h' := h.perm hp
  exact ⟨h'.room, (List.nodup_cons.1 h'.numbers).1, (List.nodup_cons.1 h'.tags).1⟩

/-- A trip's call has left, and the trip becomes settled. -/
theorem Ledger.settle (h : Ledger trips calls) (hx : x ∈ trips)
    (h' : Ledger (trips.filter (fun y => y.number ≠ x.number)) calls') {f : Trip → Trip}
    (hnumber : (f x).number = x.number) (htag : (f x).tag = x.tag) (hset : (f x).settled = true) :
    Ledger (trips.map (fun y => if y.number = x.number then f y else y)) calls' := by
  obtain ⟨hroom, hnew, hfree⟩ := h.others hx
  exact (h'.cons_settled hroom (by rwa [hnumber]) (by rwa [htag]) hset).perm
    (update_perm h.numbers hx f).symm

/-- A trip's call has left, if it had one, and the trip goes on with another. -/
theorem Ledger.rebook (h : Ledger trips calls) (hx : x ∈ trips)
    (h' : Ledger (trips.filter (fun y => y.number ≠ x.number)) calls') {f : Trip → Trip} {c : Call}
    {after : TripState → Nat → List Call} (hnumber : (f x).number = x.number)
    (htag : (f x).tag ∉ (trips.filter (fun y => y.number ≠ x.number)).map (fun y => y.tag))
    (hgroup : 1 ≤ (f x).group ∧ (f x).group ≤ 6)
    (hcall : c.trip = (f x).number ∧ c.tag = (f x).tag)
    (hafter : ∀ st g, TripState.hasCall st → after st g =
      if (f x).state = st ∧ (f x).group = g then calls' st g ++ [c] else calls' st g)
    (hqueue : (f x).state = .queued → (calls' .queued (f x).group).length < 8)
    (htable : (f x).state = .called → (calls' .called (f x).group).length < 16) :
    Ledger (trips.map (fun y => if y.number = x.number then f y else y)) after := by
  obtain ⟨hroom, hnew, -⟩ := h.others hx
  exact (h'.cons_call hroom (by rwa [hnumber]) htag hgroup hcall hafter hqueue htable).perm
    (update_perm h.numbers hx f).symm

/-- A test of numbers that fails for those of a group's calls in one state alone: the trips that pass it stay,
and with them their calls. -/
theorem Ledger.withdraw (h : Ledger trips calls) {st : TripState} (hst : TripState.hasCall st)
    {g : Nat} (keep : Nat → Bool)
    (hgone : ∀ n, keep n = false → ∃ c ∈ calls st g, c.trip = n)
    (hother : ∀ st' g', ¬ (st' = st ∧ g' = g) → calls' st' g' = calls st' g')
    (hsub : (calls' st g).Sublist (calls st g))
    (hleft : ∀ c ∈ calls st g, c ∈ calls' st g ↔ keep c.trip = true) :
    Ledger (trips.filter (fun x => keep x.number)) calls' := by
  refine h.filter keep (fun st' g' => ?_) fun st' g' hst' c hc => ?_
  · by_cases hat : st' = st ∧ g' = g
    · obtain ⟨rfl, rfl⟩ := hat
      exact hsub
    · rw [hother st' g' hat]
  · by_cases hat : st' = st ∧ g' = g
    · obtain ⟨rfl, rfl⟩ := hat
      exact hleft c hc
    · rw [hother st' g' hat]
      refine iff_of_true hc (Bool.not_eq_false _ ▸ fun hk => hat ?_)
      obtain ⟨d, hd, hdc⟩ := hgone c.trip hk
      obtain ⟨x, hx, hxc, -, hxg, hxst⟩ := h.trip_of_call hst' hc
      obtain ⟨y, hy, hyd, -, hyg, hyst⟩ := h.trip_of_call hst hd
      obtain rfl := eq_of_number_eq h.numbers hx hy (hxc.trans (hdc.symm.trans hyd.symm))
      exact ⟨hxst.symm.trans hyst, hxg.symm.trans hyg⟩

/-- Two calls have one tag exactly when they are of one trip. -/
theorem Ledger.tag_eq_iff (h : Ledger trips calls) {st st' : TripState} {g g' : Nat} {c d : Call}
    (hst : TripState.hasCall st) (hst' : TripState.hasCall st') (hc : c ∈ calls st g)
    (hd : d ∈ calls st' g') : c.tag = d.tag ↔ c.trip = d.trip := by
  obtain ⟨x, hx, hxc, hxt, -⟩ := h.trip_of_call hst hc
  obtain ⟨y, hy, hyd, hyt, -⟩ := h.trip_of_call hst' hd
  rw [← hxc, ← hyd, ← hxt, ← hyt]
  exact ⟨fun e => congrArg _ (List.inj_on_of_nodup_map h.tags hx hy e),
    fun e => congrArg _ (eq_of_number_eq h.numbers hx hy e)⟩

end

/-! ## The ledger of a state -/

/-- The calls a group holds for its trips in a state: its Call Queue for the QUEUED, the calls of its Outstanding
Call Table for the CALLED. -/
def GroupState.calls (v : GroupState) : TripState → List Call
  | .queued => v.queue
  | .called => v.outstanding.map (fun o => o.call)
  | .assigned | .awaitingTransfer => []

def callsOf (s : State) (st : TripState) (g : Nat) : List Call := GroupState.calls (s.group g) st

/-- Trips and calls of the state are in order. -/
def Booked (s : State) : Prop := Ledger s.trips (callsOf s)

theorem callsWithin_iff (s : State) :
    CallsWithin s ↔ EveryTables LimitsWithin s ∧ Booked s := by
  constructor
  · rintro ⟨hlimits, hroom, hnumbers, htags, hgroups, hcalls⟩
    refine ⟨hlimits, hroom, hnumbers, htags, hgroups, fun g => (hcalls g).1, fun g => ?_, ?_⟩
    · exact (List.length_map _).trans_le (hcalls g).2.1
    · rintro st g (rfl | rfl)
      · exact (hcalls g).2.2.1
      · exact (hcalls g).2.2.2
  · rintro ⟨hlimits, h⟩
    refine ⟨hlimits, h.room, h.numbers, h.tags, h.groups, fun g => ⟨h.queueRoom g, ?_, ?_, ?_⟩⟩
    · exact (List.length_map _).symm.trans_le (h.tableRoom g)
    · exact h.listed .queued g (.inl rfl)
    · exact h.listed .called g (.inr rfl)

section
variable {s t : State}

theorem Booked.of_eq (h : Booked s) (htrips : t.trips = s.trips) (hcalls : callsOf t = callsOf s) :
    Booked t := by
  unfold Booked
  rw [htrips, hcalls]
  exact h

theorem callsOf_congr (h : t.groups = s.groups) : callsOf t = callsOf s := by
  unfold callsOf State.group
  rw [h]

theorem callsOf_setGroup (s : State) (g : Nat) (v : GroupState) (st : TripState) (h : Nat) :
    callsOf (s.setGroup g v) st h = if h = g then GroupState.calls v st else callsOf s st h := by
  unfold callsOf
  rw [setGroup_group]
  split_ifs <;> rfl

/-- A write that leaves a group's queue and table leaves the calls. -/
theorem callsOf_setGroup_same (s : State) {g : Nat} {v : GroupState}
    (h : ∀ st, GroupState.calls v st = callsOf s st g) :
    callsOf (s.setGroup g v) = callsOf s := by
  funext st j
  rw [callsOf_setGroup]
  split_ifs with hj
  · rw [hj, h st]
  · rfl

/-- Where a write of one list of a group's calls shows. -/
theorem callsOf_setGroup_other {g : Nat} {v : GroupState} {st : TripState}
    (h : ∀ st', st' ≠ st → GroupState.calls v st' = callsOf s st' g) (st' : TripState) (g' : Nat)
    (hat : ¬ (st' = st ∧ g' = g)) : callsOf (s.setGroup g v) st' g' = callsOf s st' g' := by
  rw [callsOf_setGroup]
  split_ifs with hg
  · rw [hg, h st' fun e => hat ⟨e, hg⟩]
  · rfl

/-! ## Calls that are taken away -/

/-- An outstanding call is taken out of its table, and its trip leaves. -/
theorem Booked.removeOutstanding (h : Booked s) {g : Nat} {o : Outstanding}
    (ho : o ∈ (s.group g).outstanding) :
    Ledger (s.trips.filter (fun x => x.number ≠ o.call.trip))
      (callsOf (s.removeOutstanding g o.call.tag)) := by
  have hcall : o.call ∈ callsOf s .called g := List.mem_map_of_mem ho
  refine h.withdraw (st := .called) (g := g) (.inr rfl) (fun n => decide (n ≠ o.call.trip)) ?_ ?_ ?_ ?_
  · intro n hn
    exact ⟨o.call, hcall, (not_not.1 (of_decide_eq_false hn)).symm⟩
  · refine callsOf_setGroup_other fun st' hst' => ?_
    cases st' with
    | called => exact absurd rfl hst'
    | queued | assigned | awaitingTransfer => rfl
  · rw [State.removeOutstanding, callsOf_setGroup, if_pos rfl]
    exact List.filter_sublist.map _
  · intro c hc
    rw [State.removeOutstanding, callsOf_setGroup, if_pos rfl, decide_eq_true_iff, ne_eq,
      ← h.tag_eq_iff (.inr rfl) (.inr rfl) hc hcall]
    simp only [GroupState.calls, List.mem_map, List.mem_filter, decide_eq_true_eq]
    constructor
    · rintro ⟨q, ⟨-, hq⟩, rfl⟩
      exact hq
    · intro hne
      obtain ⟨q, hq, rfl⟩ := List.mem_map.1 hc
      exact ⟨q, ⟨hq, hne⟩, rfl⟩

/-- A QUEUED trip leaves with its call (R141). -/
theorem Booked.removeQueued (h : Booked s) {x : Trip} (hx : x ∈ s.trips) (hst : x.state = .queued) :
    Ledger (s.trips.filter (fun y => y.number ≠ x.number))
      (callsOf (s.removeQueued x.group x.number)) := by
  obtain ⟨c, hc, hcx⟩ := (h.listed .queued x.group (.inl rfl)).2.2 x hx rfl hst
  refine h.withdraw (st := .queued) (g := x.group) (.inl rfl) (fun n => decide (n ≠ x.number))
    ?_ ?_ ?_ ?_
  · intro n hn
    exact ⟨c, hc, hcx.trans (not_not.1 (of_decide_eq_false hn)).symm⟩
  · refine callsOf_setGroup_other fun st' hst' => ?_
    cases st' with
    | queued => exact absurd rfl hst'
    | called | assigned | awaitingTransfer => rfl
  · rw [State.removeQueued, callsOf_setGroup, if_pos rfl]
    exact List.filter_sublist
  · intro d hd
    rw [State.removeQueued, callsOf_setGroup, if_pos rfl]
    exact List.mem_filter.trans (and_iff_right hd)

/-- A group's queue is withdrawn, and the trips of its calls leave (R141). -/
theorem Booked.withdrawQueue (h : Booked s) (g : Nat) : Booked (s.withdrawQueue g) := by
  have hcalls : callsOf (s.withdrawQueue g) =
      callsOf (s.setGroup g { s.group g with queue := [] }) := by
    rw [State.withdrawQueue_frame]
    rfl
  unfold Booked
  rw [State.withdrawQueue_trips, hcalls]
  refine h.withdraw (st := .queued) (g := g) (.inl rfl)
    (fun n => (s.group g).queue.all (fun c => decide (n ≠ c.trip))) ?_ ?_ ?_ ?_
  · intro n hn
    obtain ⟨c, hc, hcn⟩ := List.all_eq_false.1 hn
    exact ⟨c, hc, by simpa using Eq.symm (by simpa using hcn)⟩
  · refine callsOf_setGroup_other fun st' hst' => ?_
    cases st' with
    | queued => exact absurd rfl hst'
    | called | assigned | awaitingTransfer => rfl
  · rw [callsOf_setGroup, if_pos rfl]
    exact List.nil_sublist _
  · intro c hc
    rw [callsOf_setGroup, if_pos rfl]
    refine iff_of_false List.not_mem_nil fun hk => ?_
    exact absurd rfl (of_decide_eq_true (List.all_eq_true.1 hk c hc))

/-! ## Settled trips leave -/

/-- A record that is not waiting for its call leaves (R114, R116). -/
theorem Booked.removeTrip (h : Booked s) {x : Trip} (hx : x ∈ s.trips) (hset : x.settled = true) :
    Booked (s.removeTrip x.number) := by
  refine Ledger.drop_settled h List.filter_sublist fun y hy hyset => ?_
  refine List.mem_filter.2 ⟨hy, decide_eq_true fun hn => ?_⟩
  rw [eq_of_number_eq h.numbers hy hx hn, hset] at hyset
  exact Bool.noConfusion hyset

/-- A pass is dropped (R29). -/
theorem Booked.dropPass (h : Booked s) (k : BadgeKey) : Booked (s.dropPass k) := by
  refine Ledger.drop_settled h List.filter_sublist fun y hy hyset => ?_
  refine List.mem_filter.2 ⟨hy, ?_⟩
  have hstate := (settled_eq_false_iff y).1 hyset
  rcases hstate with hstate | hstate <;> simp [hstate]

/-- The trips that wait for their calls are fewer than 512, for six groups hold at most 24 calls each
(R126, R127). -/
theorem Booked.exists_settled (h : Booked s) (hfull : 512 ≤ s.trips.length) :
    ∃ x ∈ s.trips, x.settled = true := by
  by_contra hnone
  push Not at hnone
  have hsub : s.trips.map (fun x => x.number) ⊆ groupNumbers.flatMap
      (fun g => (callsOf s .queued g ++ callsOf s .called g).map (fun c => c.trip)) := by
    intro n hn
    obtain ⟨x, hx, rfl⟩ := List.mem_map.1 hn
    have hset := Bool.eq_false_iff.2 (hnone x hx)
    obtain ⟨h1, h6⟩ := h.groups x hx hset
    have hst := (settled_eq_false_iff x).1 hset
    obtain ⟨c, hc, hcx⟩ := (h.listed x.state x.group hst).2.2 x hx rfl rfl
    refine List.mem_flatMap.2 ⟨x.group, (mem_groupNumbers _).2 ⟨h1, h6⟩,
      List.mem_map.2 ⟨c, List.mem_append.2 ?_, hcx⟩⟩
    rcases hst with e | e <;> rw [e] at hc
    · exact .inl hc
    · exact .inr hc
  have hlength := (h.numbers.subperm hsub).length_le
  have hqueue := h.queueRoom
  have htable := h.tableRoom
  simp only [groupNumbers, List.flatMap_cons, List.flatMap_nil, List.length_append,
    List.length_map, List.length_nil] at hlength
  have := hqueue 1; have := hqueue 2; have := hqueue 3
  have := hqueue 4; have := hqueue 5; have := hqueue 6
  have := htable 1; have := htable 2; have := htable 3
  have := htable 4; have := htable 5; have := htable 6
  omega

/-- Making room leaves the ledger in order, with room for one (R122). -/
theorem Booked.makeRoom (h : Booked s) : Booked s.makeRoom ∧ s.makeRoom.trips.length < 512 := by
  unfold State.makeRoom
  split_ifs with hfull
  · obtain ⟨x, hx, hset⟩ := h.exists_settled hfull
    refine ⟨Ledger.drop_settled h List.eraseP_sublist fun y hy hyset => ?_, ?_⟩
    · exact (List.mem_eraseP_of_neg (by rw [hyset]; decide)).2 hy
    · have hlength := List.length_eraseP_of_mem hx hset
      have hroom : s.trips.length ≤ 512 := h.room
      have hpos := List.length_pos_of_mem hx
      change (s.trips.eraseP Trip.settled).length < 512
      omega
  · exact ⟨h, Nat.lt_of_not_le hfull⟩

end

end Sys2Proof.Safety
end

section
/-! SUPPORT. What the Call Exchange and the Admission Unit do to the ledger: sending, assignment, supersession, creation and carrying on (R101, R102, R109, R119, R128, R131, R133). -/

namespace Sys2Proof.Safety

open Sys2Proof.Machine

/-! ## The Call Exchange (07) -/

section
variable {s : State}

theorem tripOf_mem {n : Nat} {x : Trip} (h : s.tripOf n = some x) : x ∈ s.trips :=
  List.mem_of_find?_eq_some h

theorem tripOfKey_mem {k : BadgeKey} {x : Trip} (h : s.tripOfKey k = some x) : x ∈ s.trips :=
  List.mem_of_find?_eq_some h

theorem Booked.tripOf (h : Booked s) {x : Trip} (hx : x ∈ s.trips) :
    s.tripOf x.number = some x := by
  cases hy : s.tripOf x.number with
  | none => exact absurd (List.find?_eq_none.1 hy x hx) (by simp)
  | some y => rw [eq_of_number_eq h.numbers (tripOf_mem hy) hx (tripOf_number hy)]

theorem outstandingOf_mem {g tag : Nat} {o : Outstanding} (h : s.outstandingOf g tag = some o) :
    o ∈ (s.group g).outstanding ∧ o.call.tag = tag :=
  ⟨List.mem_of_find?_eq_some h, by simpa using List.find?_some h⟩

/-- The trip of an outstanding call. -/
theorem Booked.trip_of_outstanding (h : Booked s) {g : Nat} {o : Outstanding}
    (ho : o ∈ (s.group g).outstanding) : ∃ x, s.tripOf o.call.trip = some x ∧ x ∈ s.trips ∧
      x.number = o.call.trip := by
  obtain ⟨x, hx, hnumber, -⟩ := h.trip_of_call (.inr rfl) (List.mem_map_of_mem ho)
  exact ⟨x, hnumber ▸ h.tripOf hx, hx, hnumber⟩

/-- A refused or unanswered call leaves with its trip (R135, R136). -/
theorem Booked.failOutstanding (h : Booked s) {g : Nat} {o : Outstanding}
    (ho : o ∈ (s.group g).outstanding) (r : Reason) :
    Booked ((s.removeOutstanding g o.call.tag).failTrip o.call.trip r) := by
  have hcalls : callsOf ((s.removeOutstanding g o.call.tag).failTrip o.call.trip r) =
      callsOf (s.removeOutstanding g o.call.tag) := by
    rw [State.failTrip_frame]
    rfl
  unfold Booked
  rw [State.failTrip_trips, hcalls]
  exact h.removeOutstanding ho

/-- The record of a trip that is assigned a car (R111, R112). -/
def advance (s : State) (car : Nat) (y : Trip) : Trip :=
  if y.onLastLeg then y.assigned car s.now s.settings else y.passed car s.now s.settings

/-- A trip's record has advanced, and its visitor has been counted down (R32). -/
def advanced (s : State) (x : Trip) (car : Nat) : State :=
  if x.leg = 1 then (s.updateTrip x.number (advance s car)).countDown x.key
  else s.updateTrip x.number (advance s car)

/-- The answer of an assignment (R105, R111, R112). -/
def admitAnswer (x : Trip) (car : Nat) : Answer :=
  x.answer .admitted none (some car) (if x.onLastLeg then none else x.transfer)

theorem assignTrip_eq (s : State) (x : Trip) (car : Nat) : s.assignTrip x car =
    if x.onLastLeg && decide (s.settings.repeatGuard = 0) then
      ((advanced s x car).endAwait x (admitAnswer x car)).removeTrip x.number
    else (advanced s x car).endAwait x (admitAnswer x car) := rfl

theorem advance_fields (s : State) (car : Nat) (y : Trip) : (advance s car y).number = y.number ∧
    (advance s car y).tag = y.tag ∧ (advance s car y).settled = true := by
  unfold advance
  split_ifs <;> exact ⟨rfl, rfl, rfl⟩

theorem advanced_trips (s : State) (x : Trip) (car : Nat) : (advanced s x car).trips =
    s.trips.map (fun y => if y.number = x.number then advance s car y else y) := by
  unfold advanced
  split_ifs
  · rw [State.countDown_frame]
    rfl
  · rfl

theorem advanced_groups (s : State) (x : Trip) (car : Nat) :
    (advanced s x car).groups = s.groups := by
  unfold advanced
  split_ifs
  · rw [State.countDown_frame]
    rfl
  · rfl

/-- An assignment takes the call out of the table; the trip becomes settled, or leaves with a repeat guard of 0
(R111, R112, R133). -/
theorem Booked.assignOutstanding (h : Booked s) {g : Nat} {o : Outstanding}
    (ho : o ∈ (s.group g).outstanding) (car : Nat) : Booked (s.assignCall g o car) := by
  have hleft := h.removeOutstanding ho
  obtain ⟨x, hxof, hx, hnumber⟩ := h.trip_of_outstanding ho
  unfold State.assignCall
  dsimp only
  generalize hu : s.removeOutstanding g o.call.tag = u at hleft ⊢
  have htrips : u.trips = s.trips := hu ▸ rfl
  have hof : u.tripOf o.call.trip = some x := hu ▸ hxof
  rw [hof, ← hnumber] at *
  obtain ⟨hn, htag, hset⟩ := advance_fields u car x
  have hanswered : ∀ a, Booked ((advanced u x car).endAwait x a) ∧
      advance u car x ∈ ((advanced u x car).endAwait x a).trips := by
    intro a
    rw [State.endAwait_frame]
    have htrips' := (advanced_trips u x car).trans (by rw [htrips])
    refine ⟨Booked.of_eq (s := advanced u x car) ?_ rfl rfl, ?_⟩
    · unfold Booked
      rw [htrips', callsOf_congr (advanced_groups u x car)]
      exact h.settle hx hleft hn htag hset
    · exact htrips' ▸ List.mem_map.2 ⟨x, hx, if_pos rfl⟩
  have hbooked : Booked (u.assignTrip x car) := by
    rw [assignTrip_eq]
    obtain ⟨hb, hmem⟩ := hanswered (admitAnswer x car)
    split_ifs
    · exact hn ▸ hb.removeTrip hmem hset
    · exact hb
  exact hbooked.of_eq rfl (callsOf_setGroup_same _ fun st => by cases st <;> rfl)

/-- The head call of a queue goes into the table, which has room, and its trip becomes CALLED (R131). -/
theorem Booked.callSent (h : Booked s) {g : Nat} {c : Call} {rest : List Call} {deadline : Nat}
    (hq : (s.group g).queue = c :: rest) (hroom : (s.group g).outstanding.length < 16) :
    Booked ((s.setGroup g { s.group g with
      queue := rest, outstanding := (s.group g).outstanding ++ [⟨c, deadline⟩] }).updateTrip c.trip
        (fun x => { x with state := .called })) := by
  have hcalls : callsOf s .queued g = c :: rest := hq
  have hc : c ∈ callsOf s .queued g := hcalls ▸ List.mem_cons_self
  obtain ⟨x, hx, hxc, hxt, hxg, hxst⟩ := h.trip_of_call (.inl rfl) hc
  have hnodup := (h.listed .queued g (.inl rfl)).1
  rw [hcalls, List.map_cons, List.nodup_cons] at hnodup
  have hleft : Ledger (s.trips.filter (fun y => y.number ≠ x.number))
      (callsOf (s.setGroup g { s.group g with queue := rest })) := by
    refine h.withdraw (st := .queued) (g := g) (.inl rfl) (fun n => decide (n ≠ x.number)) ?_ ?_ ?_ ?_
    · intro n hn
      exact ⟨c, hc, hxc.symm.trans (not_not.1 (of_decide_eq_false hn)).symm⟩
    · refine callsOf_setGroup_other fun st' hst' => ?_
      cases st' with
      | queued => exact absurd rfl hst'
      | called | assigned | awaitingTransfer => rfl
    · rw [callsOf_setGroup, if_pos rfl, hcalls]
      exact List.sublist_cons_self c rest
    · intro d hd
      rw [callsOf_setGroup, if_pos rfl, decide_eq_true_iff, hxc]
      constructor
      · exact fun hr e => hnodup.1 (e ▸ List.mem_map_of_mem hr)
      · intro hne
        rw [hcalls] at hd
        exact (List.mem_cons.1 hd).resolve_left fun e => hne (congrArg _ e)
  have hgroup := h.groups x hx ((settled_eq_false_iff x).2 (.inl hxst))
  rw [← hxc]
  subst hxg
  refine h.rebook hx hleft (f := fun x => { x with state := .called }) (c := c) rfl
    (h.others hx).2.2 hgroup ⟨hxc.symm, hxt.symm⟩ ?_ nofun fun _ => ?_
  · intro st j hst
    change callsOf (s.setGroup x.group _) st j = _
    rw [callsOf_setGroup, callsOf_setGroup]
    rcases hst with rfl | rfl
    · simp [GroupState.calls]
    · by_cases hj : j = x.group
      · simp [hj, GroupState.calls]
      · simp [hj, Ne.symm hj]
  · rw [callsOf_setGroup, if_pos rfl]
    exact (List.length_map _).trans_lt hroom

end

/-! ## Free numbers and tags (R109, R128) -/

/-- An allocator finds a number when fewer are held than there are. -/
theorem firstFree_fresh {held : Nat → Bool} {top last : Nat} (taken : List Nat)
    (hlength : taken.length < top) (htaken : ∀ n, held n = true → n ∈ taken) :
    held (firstFree held top top (following top last)) = false := by
  have hfree : ∃ m, 1 ≤ m ∧ m ≤ top ∧ held m = false := by
    by_contra hnone
    push Not at hnone
    have hall : List.range' 1 top ⊆ taken := fun m hm => by
      obtain ⟨h1, h2⟩ := List.mem_range'_1.1 hm
      exact htaken m (Bool.eq_true_of_not_eq_false (hnone m h1 (by omega)))
    have hle := ((List.nodup_range' (s := 1) (n := top)).subperm hall).length_le
    rw [List.length_range'] at hle
    omega
  exact Bool.eq_false_iff.2 (firstFree_allocated held top last hfree).2.2.1

section
variable {s : State}

/-- A tag is held by a settled trip or by a call (R128). -/
theorem tagHeld_iff (tag : Nat) : s.tagHeld tag = true ↔
    (∃ x ∈ s.trips, x.settled = true ∧ x.tag = tag) ∨
      ∃ st g, TripState.hasCall st ∧ 1 ≤ g ∧ g ≤ 6 ∧ ∃ c ∈ callsOf s st g, c.tag = tag := by
  have hcalls : (∃ st g, TripState.hasCall st ∧ 1 ≤ g ∧ g ≤ 6 ∧ ∃ c ∈ callsOf s st g, c.tag = tag) ↔
      ∃ g, (1 ≤ g ∧ g ≤ 6) ∧ ((∃ c ∈ (s.group g).queue, c.tag = tag) ∨
        ∃ o ∈ (s.group g).outstanding, o.call.tag = tag) := by
    constructor
    · rintro ⟨st, g, rfl | rfl, h1, h6, c, hc, ht⟩
      · exact ⟨g, ⟨h1, h6⟩, .inl ⟨c, hc, ht⟩⟩
      · obtain ⟨o, ho, rfl⟩ := List.mem_map.1 hc
        exact ⟨g, ⟨h1, h6⟩, .inr ⟨o, ho, ht⟩⟩
    · rintro ⟨g, ⟨h1, h6⟩, ⟨c, hc, ht⟩ | ⟨o, ho, ht⟩⟩
      · exact ⟨.queued, g, .inl rfl, h1, h6, c, hc, ht⟩
      · exact ⟨.called, g, .inr rfl, h1, h6, o.call, List.mem_map_of_mem ho, ht⟩
  rw [hcalls]
  simp [State.tagHeld, mem_groupNumbers]

/-- In an orderly ledger the tags held are those of the trips. -/
theorem Booked.tag_of_held (h : Booked s) {tag : Nat} (ht : s.tagHeld tag = true) :
    tag ∈ s.trips.map (fun x => x.tag) := by
  rcases (tagHeld_iff tag).1 ht with ⟨x, hx, -, rfl⟩ | ⟨st, g, hst, -, -, c, hc, rfl⟩
  · exact List.mem_map_of_mem hx
  · obtain ⟨x, hx, -, hxt, -⟩ := h.trip_of_call hst hc
    exact hxt ▸ List.mem_map_of_mem hx

theorem Booked.tagHeld_of_mem (h : Booked s) {x : Trip} (hx : x ∈ s.trips) :
    s.tagHeld x.tag = true := by
  refine (tagHeld_iff _).2 ?_
  by_cases hset : x.settled = true
  · exact .inl ⟨x, hx, hset, rfl⟩
  · rw [Bool.not_eq_true] at hset
    have hst := (settled_eq_false_iff x).1 hset
    obtain ⟨h1, h6⟩ := h.groups x hx hset
    obtain ⟨c, hc, hcx⟩ := (h.listed x.state x.group hst).2.2 x hx rfl rfl
    obtain ⟨y, hy, hyc, hyt, -⟩ := h.trip_of_call hst hc
    obtain rfl := eq_of_number_eq h.numbers hx hy (hcx.symm.trans hyc.symm)
    exact .inr ⟨_, _, hst, h1, h6, c, hc, hyt.symm⟩

theorem Booked.nextTag_fresh (h : Booked s) : s.nextTag ∉ s.trips.map (fun x => x.tag) := by
  intro hmem
  obtain ⟨x, hx, hxt⟩ := List.mem_map.1 hmem
  have hroom : s.trips.length ≤ 512 := h.room
  have hfree : s.tagHeld s.nextTag = false :=
    firstFree_fresh (s.trips.map (fun x => x.tag))
      (by rw [List.length_map]; unfold Config.lastTagValue; omega) fun _ ht => h.tag_of_held ht
  have hheld := h.tagHeld_of_mem hx
  change x.tag = s.nextTag at hxt
  rw [hxt, hfree] at hheld
  exact Bool.noConfusion hheld

theorem Booked.nextTrip_fresh (h : Booked s) : s.nextTrip ∉ s.trips.map (fun x => x.number) := by
  have hheld : ∀ n, s.tripHeld n = true ↔ n ∈ s.trips.map (fun x => x.number) := by
    intro n
    simp [State.tripHeld]
  have hroom : s.trips.length ≤ 512 := h.room
  have hfree : s.tripHeld s.nextTrip = false :=
    firstFree_fresh (s.trips.map (fun x => x.number))
      (by rw [List.length_map]; unfold Config.lastTripValue; omega) fun n => (hheld n).1
  exact fun hmem => Bool.noConfusion (hfree.symm.trans ((hheld _).2 hmem))

/-! ## Supersession, creation and carrying on (R101, R102, R119) -/

/-- A superseded trip leaves with its call, and no call comes. -/
theorem Booked.supersede (h : Booked s) {x : Trip} (hx : x ∈ s.trips) :
    Booked (s.supersede x) ∧ (s.supersede x).trips = s.trips.filter (fun y => y.number ≠ x.number) ∧
      ∀ st g, (callsOf (s.supersede x) st g).Sublist (callsOf s st g) := by
  have hended : ∀ (u : State) (a : Answer), ((u.endAwait x a).removeTrip x.number).trips =
        u.trips.filter (fun y => y.number ≠ x.number) ∧
      callsOf ((u.endAwait x a).removeTrip x.number) = callsOf u := by
    intro u a
    rw [State.endAwait_frame]
    exact ⟨rfl, rfl⟩
  have hcancelled : ∀ (u : State) (c : Cancel),
      (u.placeCancel c).trips = u.trips ∧ callsOf (u.placeCancel c) = callsOf u := by
    intro u c
    rw [State.placeCancel_frame]
    exact ⟨rfl, rfl⟩
  unfold State.supersede
  dsimp only
  split
  · next hst =>
    obtain ⟨htrips, hcalls⟩ := hended (s.removeQueued x.group x.number)
      (x.answer .denied (some .superseded) none none)
    refine ⟨?_, htrips, fun st g => ?_⟩
    · unfold Booked
      rw [htrips, hcalls]
      exact h.removeQueued hx hst
    · rw [hcalls, State.removeQueued, callsOf_setGroup]
      split_ifs with hg
      · subst hg
        cases st
        · exact List.filter_sublist
        all_goals exact List.Sublist.refl _
      · exact List.Sublist.refl _
  · next hst =>
    obtain ⟨c, hc, hcx⟩ := (h.listed .called x.group (.inr rfl)).2.2 x hx rfl hst
    obtain ⟨o, ho, rfl⟩ := List.mem_map.1 hc
    have htag : o.call.tag = x.tag := by
      obtain ⟨y, hy, hyc, hyt, -⟩ := h.trip_of_call (.inr rfl) hc
      obtain rfl := eq_of_number_eq h.numbers hx hy (hcx.symm.trans hyc.symm)
      exact hyt.symm
    obtain ⟨htrips, hcalls⟩ := hended
      ((s.removeOutstanding x.group x.tag).placeCancel ⟨x.group, x.tag⟩)
      (x.answer .denied (some .superseded) none none)
    obtain ⟨htrips', hcalls'⟩ := hcancelled (s.removeOutstanding x.group x.tag) ⟨x.group, x.tag⟩
    rw [htrips'] at htrips
    rw [hcalls'] at hcalls
    refine ⟨?_, htrips, fun st g => ?_⟩
    · unfold Booked
      rw [htrips, hcalls, ← htag, ← hcx]
      exact h.removeOutstanding ho
    · rw [hcalls, State.removeOutstanding, callsOf_setGroup]
      split_ifs with hg
      · subst hg
        cases st
        case called => exact List.filter_sublist.map _
        all_goals exact List.Sublist.refl _
      · exact List.Sublist.refl _
  all_goals
    next hst =>
    obtain ⟨htrips, hcalls⟩ := hcancelled s ⟨x.group, x.tag⟩
    have hset : x.settled = true := by simp [Trip.settled, hst]
    have hbooked : Booked (s.placeCancel ⟨x.group, x.tag⟩) := h.of_eq htrips hcalls
    refine ⟨hbooked.removeTrip (htrips.symm ▸ hx) hset, ?_, fun st g => ?_⟩
    · exact congrArg (List.filter _) htrips
    · exact (congrFun (congrFun hcalls st) g) ▸ List.Sublist.refl _

theorem callsOf_queueCall (s : State) (g : Nat) (c : Call) {st : TripState}
    (hst : TripState.hasCall st) (j : Nat) : callsOf (s.queueCall g c) st j =
      if TripState.queued = st ∧ g = j then callsOf s st j ++ [c] else callsOf s st j := by
  rw [State.queueCall, callsOf_setGroup]
  rcases hst with rfl | rfl
  · by_cases hj : j = g
    · subst hj
      exact (if_pos rfl).trans (if_pos ⟨rfl, rfl⟩).symm
    · exact (if_neg hj).trans (if_neg fun e => hj e.2.symm).symm
  · refine Eq.trans ?_ (if_neg fun e => TripState.noConfusion e.1).symm
    split_ifs with hj
    · rw [hj]
      rfl
    · rfl

/-- Room in a Call Queue for a trip whose own call, if any, has left (R100). -/
theorem room_of_queueFull {trips : List Trip} {calls : TripState → Nat → List Call} {g : Nat}
    {own : Option Nat} (h : Ledger trips calls) (hown : ∀ y ∈ trips, some y.number ≠ own)
    (hsub : (calls .queued g).Sublist (s.group g).queue) (hfull : s.queueFull g own = false) :
    (calls .queued g).length < 8 := by
  have hothers : (calls .queued g).Sublist
      ((s.group g).queue.filter (fun c => some c.trip ≠ own)) := by
    have hfilter := hsub.filter (fun c => decide (some c.trip ≠ own))
    rwa [List.filter_eq_self.2] at hfilter
    intro c hc
    obtain ⟨y, hy, hyc, -⟩ := h.trip_of_call (.inl rfl) hc
    exact decide_eq_true (hyc ▸ hown y hy)
  exact hothers.length_le.trans_lt (Nat.lt_of_not_le (of_decide_eq_false hfull))

/-- The state in which a new trip of a key is created: its record superseded, if it has one, and then with room in
the Trip List (R119, R122). -/
def supersededKey (s : State) (key : BadgeKey) : State :=
  match s.tripOfKey key with
  | some x => s.supersede x
  | none => s

theorem createTrip_eq (s : State) (terminal : Nat) (key : BadgeKey) (final g : Nat)
    (transfer : Option Nat) (needs : Bool) :
    s.createTrip terminal key final g transfer needs =
      let u := (supersededKey s key).makeRoom
      let x := u.newTrip terminal key final g transfer
      (({ u with trips := u.trips ++ [x], lastTrip := x.number, lastTag := x.tag } :
        State).queueCall g (x.firstCall needs)).await terminal x.number := rfl

theorem Booked.supersededKey (h : Booked s) (key : BadgeKey) :
    Booked (supersededKey s key) ∧
      (∀ y ∈ (Safety.supersededKey s key).trips,
        some y.number ≠ (s.tripOfKey key).map (fun x => x.number)) ∧
      ∀ st g, (callsOf (Safety.supersededKey s key) st g).Sublist (callsOf s st g) := by
  unfold Safety.supersededKey
  split
  · next x hx =>
    obtain ⟨hbooked, htrips, hsub⟩ := h.supersede (tripOfKey_mem hx)
    refine ⟨hbooked, fun y hy => ?_, hsub⟩
    rw [htrips] at hy
    rw [hx]
    exact fun e => of_decide_eq_true (List.mem_filter.1 hy).2 (Option.some.inj e)
  · next hx => exact ⟨h, by simp [hx], fun _ _ => List.Sublist.refl _⟩

/-- A trip is created with its call, in a group whose queue has room beside the key's own record. -/
theorem Booked.createTrip (h : Booked s) {terminal : Nat} {key : BadgeKey} {final g : Nat}
    {transfer : Option Nat} {needs : Bool} (hg : 1 ≤ g ∧ g ≤ 6)
    (hfull : s.queueFull g ((s.tripOfKey key).map (fun x => x.number)) = false) :
    Booked (s.createTrip terminal key final g transfer needs) := by
  obtain ⟨hbooked, hown, hsub⟩ := h.supersededKey key
  obtain ⟨hroomed, hlength⟩ := hbooked.makeRoom
  have hqueue : (callsOf (Safety.supersededKey s key).makeRoom .queued g).length < 8 := by
    rw [State.makeRoom_frame]
    exact room_of_queueFull hbooked hown (hsub .queued g) hfull
  rw [createTrip_eq]
  generalize (Safety.supersededKey s key).makeRoom = u at hroomed hlength hqueue ⊢
  have hcons := Ledger.cons_call hroomed (x := u.newTrip terminal key final g transfer)
    (c := (u.newTrip terminal key final g transfer).firstCall needs)
    (calls' := callsOf (u.queueCall g ((u.newTrip terminal key final g transfer).firstCall needs)))
    hlength hroomed.nextTrip_fresh hroomed.nextTag_fresh hg ⟨rfl, rfl⟩ ?_ (fun _ => hqueue) nofun
  · exact hcons.perm (List.perm_append_singleton _ _).symm
  · exact fun st j hst => callsOf_queueCall u g _ hst j

/-- The record of a pass carried on, with its new tag (R102). -/
def carriedWith (terminal g tag : Nat) (x : Trip) : Trip :=
  { x.carried terminal g with tag := tag }

/-- The call of a pass carried on. -/
def carriedCall (g tag : Nat) (x : Trip) (needs : Bool) : Call :=
  ⟨g, x.number, tag, x.transfer.getD x.origin, x.final, needs, .twoOfTwo⟩

theorem carryOn_trips (s : State) (terminal g : Nat) (x : Trip) (needs : Bool) :
    (s.carryOn terminal x g needs).trips = s.trips.map (fun y => if y.number = x.number then
      carriedWith terminal g
        (s.updateTrip x.number (fun y => y.carried terminal g)).nextTag y else y) := by
  refine List.map_map.trans (List.map_congr_left fun y _ => ?_)
  by_cases hy : y.number = x.number
  · rw [if_pos hy, Function.comp_apply, if_pos hy]
    exact if_pos hy
  · rw [if_neg hy, Function.comp_apply, if_neg hy]
    exact if_neg hy

/-- The tag of a pass that is carried on is free first, so that the new tag is the one that would be taken had
the pass left (R102, R128). -/
theorem nextTag_carried (s : State) (terminal g : Nat) (x : Trip) :
    (s.updateTrip x.number (fun y => y.carried terminal g)).nextTag =
      (s.removeTrip x.number).nextTag := by
  have hheld : ∀ tag, (s.updateTrip x.number (fun y => y.carried terminal g)).tagHeld tag =
      (s.removeTrip x.number).tagHeld tag := by
    intro tag
    rw [Bool.eq_iff_iff, tagHeld_iff, tagHeld_iff]
    refine or_congr ⟨?_, ?_⟩ Iff.rfl
    · rintro ⟨y, hy, hset, ht⟩
      obtain ⟨z, hz, rfl⟩ := List.mem_map.1 hy
      by_cases hn : z.number = x.number
      · rw [if_pos hn] at hset
        exact absurd hset Bool.false_ne_true
      · rw [if_neg hn] at hset ht
        exact ⟨z, List.mem_filter.2 ⟨hz, decide_eq_true hn⟩, hset, ht⟩
    · rintro ⟨y, hy, hset, ht⟩
      obtain ⟨hy, hn⟩ := List.mem_filter.1 hy
      exact ⟨y, List.mem_map.2 ⟨y, hy, if_neg (of_decide_eq_true hn)⟩, hset, ht⟩
  exact congrArg (fun held => firstFree held _ _ _) (funext hheld)

/-- A pass goes on to its second leg with a new tag and a new call. -/
theorem Booked.carryOn (h : Booked s) {terminal g : Nat} {x : Trip} {needs : Bool}
    (hx : x ∈ s.trips) (hset : x.settled = true) (hg : 1 ≤ g ∧ g ≤ 6)
    (hfull : s.queueFull g (some x.number) = false) : Booked (s.carryOn terminal x g needs) := by
  have hleft : Booked (s.removeTrip x.number) := h.removeTrip hx hset
  have hown : ∀ y ∈ (s.removeTrip x.number).trips, some y.number ≠ some x.number := fun y hy e =>
    of_decide_eq_true (List.mem_filter.1 hy).2 (Option.some.inj e)
  have hqueue := room_of_queueFull hleft hown (List.Sublist.refl _) hfull
  have hfresh := hleft.nextTag_fresh
  rw [← nextTag_carried s terminal g x] at hfresh
  have hrebook := h.rebook hx hleft (f := carriedWith terminal g _) rfl hfresh hg ⟨rfl, rfl⟩
    (fun st j hst => callsOf_queueCall s g (carriedCall g _ x needs) hst j)
    (fun _ => hqueue) nofun
  have hgroups : (s.carryOn terminal x g needs).groups = (s.queueCall g (carriedCall g
      (s.updateTrip x.number (fun y => y.carried terminal g)).nextTag x needs)).groups := rfl
  unfold Booked
  rw [carryOn_trips, callsOf_congr hgroups]
  exact hrebook

end

end Sys2Proof.Safety
end

section
/-! SUPPORT. The FIFOs and the answers that wait: what the shared operations make of them (R59, R67, R139, R166, R168, R169, R173, R182, R185). -/

namespace Sys2Proof.Safety

open Sys2Proof.Machine

/-! ## The FIFOs of the ports and the Agent -/

/-- The FIFOs of the ports and the Agent and the Cancel List hold no more than their capacities, and the response
FIFO no more than `n`: the Agent takes a request when it holds 3 at most (R173). -/
structure PortsWithin (n : Nat) (s : State) : Prop where
  requests : s.requests.length ≤ 8
  responses : s.responses.length ≤ n
  notices : s.notices.length ≤ 8
  reports : s.reports.length ≤ 32
  cancels : s.cancels.length ≤ 32
  toTerminals : s.toTerminals.length ≤ 16
  toNetwork : s.toNetwork.length ≤ 16

/-- What it speaks of. -/
def portParts (s : State) : List (List Byte) × List Response × List Notice × List Report ×
    List Cancel × List (List Byte) × List (List Byte) :=
  (s.requests, s.responses, s.notices, s.reports, s.cancels, s.toTerminals, s.toNetwork)

section
variable {n : Nat} {s t : State}

theorem PortsWithin.of_parts (h : PortsWithin n s) (e : portParts t = portParts s) :
    PortsWithin n t := by
  simp only [portParts, Prod.mk.injEq] at e
  obtain ⟨e1, e2, e3, e4, e5, e6, e7⟩ := e
  exact ⟨e1 ▸ h.requests, e2 ▸ h.responses, e3 ▸ h.notices, e4 ▸ h.reports, e5 ▸ h.cancels,
    e6 ▸ h.toTerminals, e7 ▸ h.toNetwork⟩

/-- A notice is dropped when its FIFO is full (R182). -/
theorem PortsWithin.raise (h : PortsWithin n s) (k : EventKind) : PortsWithin n (s.raise k) := by
  refine ⟨h.requests, h.responses, ?_, h.reports, h.cancels, h.toTerminals, h.toNetwork⟩
  rw [State.raise_notices, noticed]
  split_ifs with hq
  · simpa using hq.2.2
  · exact h.notices

/-- A cancel is dropped when the Cancel List is full (R139). -/
theorem PortsWithin.placeCancel (h : PortsWithin n s) (c : Cancel) :
    PortsWithin n (s.placeCancel c) := by
  rcases s.placeCancel_cases c with ⟨-, e⟩ | ⟨-, hl, e⟩ | ⟨-, -, e⟩ <;> rw [e]
  · exact h
  · exact ⟨h.requests, h.responses, h.notices, h.reports, List.length_append.trans_le hl, h.toTerminals,
      h.toNetwork⟩
  · exact h.raise _

/-- A report is dropped when the Report FIFO is full (R185). -/
theorem PortsWithin.queueReport (h : PortsWithin n s) (r : Report) :
    PortsWithin n (s.queueReport r) := by
  rcases s.queueReport_cases r with ⟨-, e⟩ | ⟨-, hl, e⟩ | ⟨-, -, e⟩ <;> rw [e]
  · exact h
  · exact ⟨h.requests, h.responses, h.notices, List.length_append.trans_le hl, h.cancels, h.toTerminals,
      h.toNetwork⟩
  · exact h.raise _

/-- A frame is dropped when the T-to-G relay FIFO is full (R169). -/
theorem PortsWithin.offerToNetwork (h : PortsWithin n s) (kind : Nat) (frame : List Byte) :
    PortsWithin n (s.offerToNetwork kind frame) := by
  unfold State.offerToNetwork
  split_ifs with _ hl
  · exact ⟨h.requests, h.responses, h.notices, h.reports, h.cancels, h.toTerminals,
      List.length_append.trans_le hl⟩
  · exact h.raise _
  · exact h

end

/-! ## The answers that wait (R59, R67, R72) -/

/-- A station of the 64 that awaits no trip and has no answer waiting: one whose presentation is decided (R72). -/
def Unanswered (s : State) (u : Nat) : Prop :=
  1 ≤ u ∧ u ≤ 64 ∧ (∀ a ∈ s.answers, a.terminal ≠ u) ∧ ∀ n, (s.terminal u).service ≠ .awaiting n

section
variable {s t : State} {u : Nat}

theorem setTerminal_terminal (s : State) (u w : Nat) (v : TerminalState) :
    (s.setTerminal u v).terminal w = if w = u then v else s.terminal w :=
  (Store.get_set ({} : TerminalState) s.terminals u w v).trans (if_congr eq_comm rfl rfl)

/-- Answers may leave, terminals cease to await their trips and the exchange end. -/
theorem AnswersWithin.mono (h : AnswersWithin s) (hanswers : t.answers.Sublist s.answers)
    (hawait : ∀ u n, (t.terminal u).service = .awaiting n → (s.terminal u).service = .awaiting n)
    (hexchange : ∀ x, t.exchange = some x → ∃ y, s.exchange = some y ∧ y.station = x.station) :
    AnswersWithin t := by
  obtain ⟨hlength, hnodup, hidle, hstation, hpolled⟩ := h
  refine ⟨hanswers.length_le.trans hlength, hnodup.sublist (hanswers.map _), fun a ha => ?_,
    fun u n hu => hstation u n (hawait u n hu), fun x hx => ?_⟩
  · obtain ⟨h1, h64, hno⟩ := hidle a (hanswers.subset ha)
    exact ⟨h1, h64, fun n hn => hno n (hawait _ n hn)⟩
  · obtain ⟨y, hy, hyx⟩ := hexchange x hx
    exact hyx ▸ hpolled y hy

theorem answersWithin_empty (ha : s.answers = []) (ht : s.terminals = []) (hx : s.exchange = none) :
    AnswersWithin s := by
  unfold AnswersWithin State.terminal
  rw [ha, ht, hx]
  refine ⟨Nat.zero_le _, List.nodup_nil, fun a h => absurd h List.not_mem_nil, fun u m h => ?_,
    fun x h => nomatch h⟩
  have hidle : TerminalService.idle = .awaiting m := h
  exact nomatch hidle

/-- What `AnswersWithin` speaks of. -/
def answerParts (s : State) : List Answer × Store TerminalState × Option Exchange :=
  (s.answers, s.terminals, s.exchange)

theorem AnswersWithin.of_parts (h : AnswersWithin s) (e : answerParts t = answerParts s) :
    AnswersWithin t := by
  simp only [answerParts, Prod.mk.injEq] at e
  obtain ⟨ha, ht, hx⟩ := e
  refine h.mono (ha ▸ List.Sublist.refl _) (fun u n hu => ?_) fun x he => ⟨x, hx ▸ he, rfl⟩
  rwa [State.terminal, ht] at hu

/-- A terminal's dynamic part is written, and it does not come to await a trip. -/
theorem AnswersWithin.setTerminal (h : AnswersWithin s) {v : TerminalState}
    (hv : ∀ n, v.service = .awaiting n → (s.terminal u).service = .awaiting n) :
    AnswersWithin (s.setTerminal u v) := by
  refine h.mono (List.Sublist.refl _) (fun w n hw => ?_) fun x hx => ⟨x, hx, rfl⟩
  rw [setTerminal_terminal] at hw
  split_ifs at hw with hwu
  · exact hwu ▸ hv n hw
  · exact hw

/-- An answer is placed for a terminal that has none waiting and awaits no trip; so there are at most 64 (R67). -/
theorem AnswersWithin.placeAnswer (h : AnswersWithin s) {a : Answer}
    (ha : Unanswered s a.terminal) : AnswersWithin (s.placeAnswer a) := by
  obtain ⟨h1, h64, hnew, hno⟩ := ha
  have hplaced : AnswersWithin { s with answers := s.answers ++ [a] } := by
    obtain ⟨-, hnodup, hidle, hstation, hpolled⟩ := h
    have hidle' : ∀ b ∈ s.answers ++ [a], 1 ≤ b.terminal ∧ b.terminal ≤ 64 ∧
        ∀ n, (s.terminal b.terminal).service ≠ .awaiting n := by
      intro b hb
      rcases List.mem_append.1 hb with hb | hb
      · exact hidle b hb
      · exact List.mem_singleton.1 hb ▸ ⟨h1, h64, hno⟩
    have hnodup' : ((s.answers ++ [a]).map (fun b => b.terminal)).Nodup := by
      rw [List.map_append, List.map_singleton]
      refine List.Nodup.append hnodup (List.nodup_singleton _) ?_
      rw [List.disjoint_singleton]
      intro hmem
      obtain ⟨b, hb, hba⟩ := List.mem_map.1 hmem
      exact hnew b hb hba
    refine ⟨?_, hnodup', hidle', hstation, hpolled⟩
    have hall : (s.answers ++ [a]).map (fun b => b.terminal) ⊆ List.range' 1 64 := by
      intro u hu
      obtain ⟨b, hb, rfl⟩ := List.mem_map.1 hu
      obtain ⟨hb1, hb64, -⟩ := hidle' b hb
      exact List.mem_range'_1.2 ⟨hb1, by omega⟩
    have hle := (hnodup'.subperm hall).length_le
    rwa [List.length_map, List.length_range'] at hle
  by_cases hv : a.verdict = .admitted
  · rw [s.placeAnswer_admitted a hv]
    exact hplaced.setTerminal fun _ => id
  · rw [s.placeAnswer_other a hv]
    exact hplaced

/-- The terminal that awaits a trip becomes IDLE and is answered. -/
theorem AnswersWithin.endAwait (h : AnswersWithin s) {x : Trip} {a : Answer}
    (ha : a.terminal = x.terminal) : AnswersWithin (s.endAwait x a) := by
  by_cases hx : Awaits s x
  · rw [s.endAwait_some x a hx]
    refine (h.setTerminal fun m hm => ?_).placeAnswer ?_
    · exact absurd hm (by simp)
    · obtain ⟨-, -, hidle, hstation, -⟩ := h
      obtain ⟨h1, h64⟩ := hstation _ _ hx
      rw [ha]
      refine ⟨h1, h64, fun b hb hbx => (hidle b hb).2.2 x.number (by rw [hbx]; exact hx),
        fun n => ?_⟩
      rw [State.setTerminal_terminal_same]
      exact nofun
  · rwa [s.endAwait_none x a hx]

/-- Ending another trip's await leaves an unanswered terminal so. -/
theorem Unanswered.endAwait (h : Unanswered s u) {x : Trip} {a : Answer}
    (ha : a.terminal = x.terminal) (hv : a.verdict ≠ .admitted) :
    Unanswered (s.endAwait x a) u := by
  obtain ⟨h1, h64, hnew, hno⟩ := h
  have hne : Awaits s x → x.terminal ≠ u := fun hx e => hno x.number (e ▸ hx)
  refine ⟨h1, h64, fun b hb => ?_, fun n => ?_⟩
  · rw [endAwait_answers s x a hv] at hb
    rcases List.mem_append.1 hb with hb | hb
    · exact hnew b hb
    · split_ifs at hb with hx
      · rw [List.mem_singleton.1 hb, ha]
        exact hne hx
      · exact absurd hb List.not_mem_nil
  · rw [idled_endAwait s x a hv u]
    split_ifs with hx
    · exact absurd hx.1.symm (hne hx.2)
    · exact hno n

end

/-! ## Both -/

/-- Whatever waits is within its capacity but for the calls and the trips. -/
def Waiting (n : Nat) (s : State) : Prop := PortsWithin n s ∧ AnswersWithin s

/-- What `Waiting` speaks of. -/
def waitingParts (s : State) := (portParts s, answerParts s)

section
variable {n : Nat} {s t : State}

theorem Waiting.of_parts (h : Waiting n s) (e : waitingParts t = waitingParts s) :
    Waiting n t :=
  ⟨h.1.of_parts (congrArg Prod.fst e), h.2.of_parts (congrArg Prod.snd e)⟩

theorem Waiting.raise (h : Waiting n s) (k : EventKind) : Waiting n (s.raise k) :=
  ⟨h.1.raise k, h.2.of_parts rfl⟩

theorem Waiting.setTerminal (h : Waiting n s) {u : Nat} {v : TerminalState}
    (hv : ∀ m, v.service = .awaiting m → (s.terminal u).service = .awaiting m) :
    Waiting n (s.setTerminal u v) :=
  ⟨h.1.of_parts rfl, h.2.setTerminal hv⟩

/-- A write that leaves the service state. -/
theorem Waiting.keepService (h : Waiting n s) {u : Nat} {v : TerminalState}
    (hv : v.service = (s.terminal u).service) : Waiting n (s.setTerminal u v) :=
  h.setTerminal fun _ => hv ▸ id

/-- A write after which the terminal awaits no trip. -/
theorem Waiting.endService (h : Waiting n s) {u : Nat} {v : TerminalState}
    (hv : v.service.pendingTrip = none) : Waiting n (s.setTerminal u v) :=
  h.setTerminal fun m hm => by rw [hm] at hv; exact nomatch hv

theorem Waiting.placeAnswer (h : Waiting n s) {a : Answer} (ha : Unanswered s a.terminal) :
    Waiting n (s.placeAnswer a) :=
  ⟨h.1.of_parts (by rw [State.placeAnswer_frame]; rfl), h.2.placeAnswer ha⟩

theorem Waiting.endAwait (h : Waiting n s) {x : Trip} {a : Answer}
    (ha : a.terminal = x.terminal) : Waiting n (s.endAwait x a) :=
  ⟨h.1.of_parts (by rw [State.endAwait_frame]; rfl), h.2.endAwait ha⟩

theorem Waiting.placeCancel (h : Waiting n s) (c : Cancel) : Waiting n (s.placeCancel c) :=
  ⟨h.1.placeCancel c, h.2.of_parts (by rw [State.placeCancel_frame]; rfl)⟩

theorem Waiting.queueReport (h : Waiting n s) (r : Report) : Waiting n (s.queueReport r) :=
  ⟨h.1.queueReport r, h.2.of_parts (by rw [State.queueReport_frame]; rfl)⟩

theorem Waiting.failTrip (h : Waiting n s) (m : Nat) (r : Reason) : Waiting n (s.failTrip m r) := by
  unfold State.failTrip
  split
  · exact h
  · exact Waiting.endAwait (h.of_parts (by rfl)) (by rfl)

theorem Waiting.withdrawQueue (h : Waiting n s) (g : Nat) : Waiting n (s.withdrawQueue g) := by
  have hall : ∀ (calls : List Call) (u : State), Waiting n u → Waiting n (failCalls u calls) := by
    intro calls
    induction calls with
    | nil => exact fun _ hu => hu
    | cons c calls ih => exact fun u hu => ih _ (hu.failTrip c.trip .noService)
  rw [withdrawQueue_eq]
  exact hall _ _ (h.of_parts (by rfl))

theorem Waiting.signOfLifeFrom (h : Waiting n s) (station : Nat) :
    Waiting n (s.signOfLifeFrom station) := by
  unfold State.signOfLifeFrom
  split
  · exact h
  · next g _ =>
    rcases s.signOfLife_cases g with ⟨-, e⟩ | ⟨-, e⟩ <;> rw [e]
    · exact Waiting.raise (h.of_parts (by rfl)) _
    · exact h

theorem Waiting.handOn (h : Waiting n s) (f : Frame) : Waiting n (s.handOn f) :=
  Waiting.signOfLifeFrom (s := { s with gReceiver := .idle }) (h.of_parts rfl) f.source

/-! ### The poll's end (R64, R65) -/

theorem Waiting.miss (h : Waiting n s) (x : Exchange) : Waiting n (s.miss x) := by
  unfold State.miss
  dsimp only
  split_ifs
  · exact h
  · exact h.keepService rfl
  · exact Waiting.raise (h.keepService (by rfl)) _
  · exact h.keepService rfl

theorem Waiting.goodReply (h : Waiting n s) (x : Exchange) : Waiting n (s.goodReply x) := by
  unfold State.goodReply
  dsimp only
  split_ifs
  · exact h
  · exact Waiting.raise (h.keepService (by rfl)) _
  · exact h.keepService rfl

/-- The exchange has ended. -/
theorem Waiting.exchangeEnds (h : Waiting n s) (ht : portParts t = portParts s)
    (ha : t.answers = s.answers) (hterminals : t.terminals = s.terminals)
    (hx : t.exchange = none) : Waiting n t := by
  refine ⟨h.1.of_parts ht, h.2.mono (ha ▸ List.Sublist.refl _) (fun u m hu => ?_) ?_⟩
  · rwa [State.terminal, hterminals] at hu
  · rw [hx]
    exact nofun

/-! ### The decision (05, 06) -/

section
variable {u : Nat}

theorem Waiting.countDenial (h : Waiting n s) (u : Nat) : Waiting n (s.countDenial u) := by
  unfold State.countDenial
  dsimp only
  split_ifs
  · exact Waiting.raise (h.endService (by rfl)) _
  · exact Waiting.raise (h.endService (by rfl)) _
  · exact h.keepService rfl

theorem Unanswered.countDenial (h : Unanswered s u) : Unanswered (s.countDenial u) u := by
  obtain ⟨h1, h64, hnew, hno⟩ := h
  refine ⟨h1, h64, fun a ha => hnew a (by rwa [State.countDenial_frame] at ha), fun m => ?_⟩
  unfold State.countDenial
  dsimp only
  split_ifs
  · rw [State.raise_terminal, State.setTerminal_terminal_same]
    exact nofun
  · rw [State.raise_terminal, State.setTerminal_terminal_same]
    exact nofun
  · rw [State.setTerminal_terminal_same]
    exact hno m

theorem Waiting.deny (h : Waiting n s) (hu : Unanswered s u) (r : Reason) (d : Option Nat) :
    Waiting n (s.deny u r d) := by
  unfold State.deny
  split_ifs
  · exact (h.countDenial u).placeAnswer hu.countDenial
  · exact h.placeAnswer hu

/-- Supersession answers the terminal that awaits the record, which is not the presenting one. -/
theorem Waiting.supersede (h : Waiting n s) (hu : Unanswered s u) (x : Trip) :
    Waiting n (s.supersede x) ∧ Unanswered (s.supersede x) u := by
  have hended : ∀ v : State, Waiting n v → Unanswered v u →
      Waiting n ((v.endAwait x (x.answer .denied (some .superseded) none none)).removeTrip x.number) ∧
      Unanswered ((v.endAwait x (x.answer .denied (some .superseded) none none)).removeTrip
        x.number) u := fun v hv hvu =>
    ⟨(hv.endAwait (x := x) rfl).of_parts rfl, hvu.endAwait rfl (by simp [Trip.answer])⟩
  have hcancelled : ∀ v : State, Unanswered v u → Unanswered (v.placeCancel ⟨x.group, x.tag⟩) u := by
    intro v hv
    rw [State.placeCancel_frame]
    exact hv
  unfold State.supersede
  dsimp only
  split
  · exact hended _ (h.of_parts (by rfl)) hu
  · exact hended _ (Waiting.placeCancel (h.of_parts (by rfl)) _) (hcancelled (s.removeOutstanding _ _) hu)
  · exact ⟨(h.placeCancel _).of_parts rfl, hcancelled s hu⟩
  · exact ⟨(h.placeCancel _).of_parts rfl, hcancelled s hu⟩

/-- An unanswered terminal comes to await a trip. -/
theorem Waiting.await (h : Waiting n s) (hu : Unanswered s u) (m : Nat) :
    Waiting n (s.await u m) := by
  obtain ⟨h1, h64, hnew, -⟩ := hu
  obtain ⟨hlength, hnodup, hidle, hstation, hpolled⟩ := h.2
  refine ⟨h.1.of_parts rfl, hlength, hnodup, fun a ha => ?_, fun w k hw => ?_, hpolled⟩
  · rw [State.await, State.setTerminal_terminal_other _ _ (hnew a ha).symm]
    exact hidle a ha
  · rw [State.await, setTerminal_terminal] at hw
    split_ifs at hw with hwu
    · exact hwu ▸ ⟨h1, h64⟩
    · exact hstation w k hw

theorem Waiting.createTrip (h : Waiting n s) (hu : Unanswered s u) (key : BadgeKey) (final g : Nat)
    (transfer : Option Nat) (needs : Bool) :
    Waiting n (s.createTrip u key final g transfer needs) := by
  have hleft : Waiting n (supersededKey s key) ∧ Unanswered (supersededKey s key) u := by
    unfold supersededKey
    split
    · exact h.supersede hu _
    · exact ⟨h, hu⟩
  obtain ⟨hw, hwu⟩ := hleft
  rw [createTrip_eq, State.makeRoom_frame]
  refine Waiting.await ?_ ?_ _
  · exact hw.of_parts (by rfl)
  · exact hwu

theorem Waiting.applyEnding (h : Waiting n s) (hu : Unanswered s u) (d : Decision) :
    Waiting n (s.applyEnding u d) := by
  unfold State.applyEnding
  split
  · split_ifs
    · exact (h.raise _).deny hu _ _
    · exact h.deny hu _ _
  · exact h.placeAnswer hu
  · exact h.placeAnswer hu
  · exact h.createTrip hu _ _ _ _ _
  · rw [State.carryOn]
    refine Waiting.await ?_ ?_ _
    · exact h.of_parts (by rfl)
    · exact hu

theorem Waiting.admission (h : Waiting n s) (p : Presentation) (hp : Unanswered s p.terminal) :
    Waiting n (s.admission p) :=
  (h.applyEnding hp _).queueReport _

/-- A presentation is discarded, or decided for an unanswered terminal (R72). -/
theorem Waiting.takePresent (h : Waiting n s) (h1 : 1 ≤ u) (h64 : u ≤ 64) (payload : List Byte) :
    Waiting n (s.takePresent u payload) := by
  unfold State.takePresent
  split_ifs with hflight
  · exact h.keepService rfl
  · refine h.admission _ ⟨h1, h64, fun a ha hau => hflight ?_, fun m hm => hflight ?_⟩
    · exact Bool.or_eq_true_iff.2 (.inr (List.any_eq_true.2 ⟨a, ha, decide_eq_true hau⟩))
    · exact Bool.or_eq_true_iff.2 (.inl (by rw [show (s.terminal u).service = _ from hm]; rfl))

end

/-! ### Alarm lines and recall (08) -/

theorem Waiting.raiseLine (h : Waiting n s) (c : LineConfig) (k : EventKind) :
    Waiting n (s.raiseLine c k) := by
  unfold State.raiseLine
  split_ifs
  · exact h
  · exact h.raise k

theorem Waiting.followActive (h : Waiting n s) (k : Nat) (was : Bool) :
    Waiting n (s.followActive k was) := by
  unfold State.followActive
  dsimp only
  split_ifs
  · exact Waiting.raiseLine (h.of_parts (by rfl)) _ _
  · exact Waiting.raiseLine (h.of_parts (by rfl)) _ _
  · exact h.of_parts rfl

/-- After the release of every terminal none awaits a trip, whatever the table lists. -/
theorem get_released (terminals : Store TerminalState) (u m : Nat) :
    (Store.get {} (terminals.mapValues {} TerminalState.released) u).service ≠ .awaiting m := by
  have hreleased : ∀ v : TerminalState, v.released.service ≠ .awaiting m := by
    intro v
    unfold TerminalState.released
    split <;> simp [*]
  by_cases hd : Store.get {} (terminals.mapValues {} TerminalState.released) u = {}
  · rw [hd]
    exact nofun
  · have hmem := Store.mem_of_get_ne _ _ _ hd
    obtain ⟨e, -, he⟩ := List.mem_map.1 (List.mem_of_mem_filter hmem)
    have hv : e.2.released = Store.get {} (terminals.mapValues {} TerminalState.released) u :=
      congrArg Prod.snd he
    exact hv ▸ hreleased e.2

theorem Waiting.recallEntry (h : Waiting n s) : Waiting n s.recallEntry := by
  have hall : ∀ (trips : List Trip) (u : State), Waiting n u →
      Waiting n (trips.foldl (fun s t =>
        s.endAwait t (t.answer .denied (some .serviceSuspended) none none)) u) := by
    intro trips
    induction trips with
    | nil => exact fun _ hu => hu
    | cons x trips ih => exact fun u hu => ih _ (hu.endAwait (by rfl))
  have hcleared : Waiting n { s with
      groups := s.groups.mapValues {} GroupState.cleared, cancels := [], trips := [] } :=
    ⟨⟨h.1.requests, h.1.responses, h.1.notices, h.1.reports, Nat.zero_le _, h.1.toTerminals,
      h.1.toNetwork⟩, h.2.of_parts rfl⟩
  have hanswered := hall s.trips _ hcleared
  unfold State.recallEntry
  dsimp only
  refine Waiting.raise ?_ _
  refine ⟨hanswered.1.of_parts rfl, hanswered.2.mono (List.Sublist.refl _) ?_
    fun x hx => ⟨x, hx, rfl⟩⟩
  exact fun u m hu => absurd hu (get_released _ u m)

theorem Waiting.formMode (h : Waiting n s) : Waiting n s.formMode := by
  rcases s.formMode_cases with ⟨-, e⟩ | ⟨-, -, e⟩ | ⟨-, -, e⟩ <;> rw [e]
  · exact h
  · exact Waiting.recallEntry (h.of_parts (by rfl))
  · exact Waiting.raise (h.of_parts (by rfl)) _

theorem Waiting.acceptLevel (h : Waiting n s) (k : Nat) (v : Level) :
    Waiting n (s.acceptLevel k v) :=
  (Waiting.followActive (h.of_parts (by rfl)) k _).formMode

theorem Waiting.startDebounce (h : Waiting n s) (k : Nat) : Waiting n (s.startDebounce k) := by
  unfold State.startDebounce
  split_ifs
  · exact h.acceptLevel k _
  · exact h.of_parts rfl

/-! ### The Call Exchange (07) -/

theorem Waiting.countDown (h : Waiting n s) (k : BadgeKey) : Waiting n (s.countDown k) :=
  h.of_parts (by rw [State.countDown_frame]; rfl)

theorem Waiting.assignTrip (h : Waiting n s) (x : Trip) (car : Nat) :
    Waiting n (s.assignTrip x car) := by
  have hadvanced : Waiting n (advanced s x car) := by
    unfold advanced
    split_ifs
    · exact Waiting.countDown (h.of_parts (by rfl)) _
    · exact h.of_parts rfl
  rw [assignTrip_eq]
  have hanswered := hadvanced.endAwait (x := x) (a := admitAnswer x car) rfl
  split_ifs
  · exact hanswered.of_parts (by rfl)
  · exact hanswered

theorem Waiting.takeAssign (h : Waiting n s) (g tag car : Nat) :
    Waiting n (s.takeAssign g tag car) := by
  unfold State.takeAssign
  split
  · exact h
  · split
    · next o _ =>
      have hremoved : Waiting n (s.removeOutstanding g o.call.tag) := h.of_parts rfl
      unfold State.assignCall
      dsimp only
      split
      · exact hremoved.of_parts (by rfl)
      · exact (hremoved.assignTrip _ car).of_parts (by rfl)
    · split
      · exact h
      · exact h.placeCancel _

theorem Waiting.takeDecline (h : Waiting n s) (g tag code : Nat) :
    Waiting n (s.takeDecline g tag code) := by
  unfold State.takeDecline
  split
  · exact h
  · exact Waiting.failTrip (h.of_parts (by rfl)) _ _

theorem Waiting.raiseStreak (h : Waiting n s) (g : Nat) : Waiting n (s.raiseStreak g) := by
  unfold State.raiseStreak
  dsimp only
  split_ifs
  · exact Waiting.withdrawQueue (Waiting.raise (h.of_parts (by rfl)) _) g
  · exact h.of_parts rfl

theorem Waiting.holdGroup (h : Waiting n s) (g : Nat) : Waiting n (s.holdGroup g) := by
  unfold State.holdGroup
  split_ifs
  · exact h
  · exact Waiting.withdrawQueue (h.of_parts (by rfl)) g

end

end Sys2Proof.Safety
end

section
/-! SUPPORT. The decisions that place a call find room for it, and what the shared operations make of the trips and calls and of the limits on them (R5, R14 to R17, R58, R98 to R102). -/

namespace Sys2Proof.Safety

open Sys2Proof.Machine

/-! ## The group a route names (R14 to R17) -/

section
variable {s : State} {any cont : Bool} {o d g l : Nat} {b : Binding}

theorem oneLeg_group (h : s.oneLeg any o d = some g) : 1 ≤ g ∧ g ≤ 6 :=
  (mem_groupNumbers g).1 (List.mem_of_find?_eq_some h)

theorem twoLegs_group (h : s.twoLegs any o d = some (g, l)) : 1 ≤ g ∧ g ≤ 6 := by
  obtain ⟨slot, -, hslot⟩ := List.exists_of_findSome?_eq_some h
  unfold State.viaSlot at hslot
  split at hslot
  · exact nomatch hslot
  · split at hslot
    · exact nomatch hslot
    · split at hslot
      · next g' _ hg _ =>
        obtain ⟨rfl, -⟩ := Prod.mk.inj (Option.some.inj hslot)
        exact oneLeg_group hg
      · exact nomatch hslot

/-- The group of a one-leg or a two-leg route, if any. -/
def routeGroup : Route → Option Nat
  | .oneLeg g => some g
  | .twoLegs g _ => some g
  | .noService | .noRoute | .otherBank => none

/-- A route names one of the six groups, when a FIXED terminal is bound to one. -/
theorem route_group (hfixed : ∀ g, b = .fixed g → 1 ≤ g ∧ g ≤ 6)
    (h : routeGroup (s.route b cont o d) = some g) : 1 ≤ g ∧ g ≤ 6 := by
  unfold State.route at h
  split at h
  · next g' =>
    unfold State.routeFixed at h
    split_ifs at h
    · exact nomatch h
    · exact nomatch h
    · exact Option.some.inj h ▸ hfixed g' rfl
  · split_ifs at h
    · unfold State.routeOn at h
      split at h
      · next g' hg => exact Option.some.inj h ▸ oneLeg_group hg
      · split_ifs at h <;> exact nomatch h
    · unfold State.routeNew at h
      split at h
      · next hg => exact Option.some.inj h ▸ oneLeg_group hg
      · next hg => exact Option.some.inj h ▸ twoLegs_group hg
      · split_ifs at h <;> exact nomatch h

end

/-! ## Decisions that place a call (R98 to R102) -/

/-- What a decision has found out by its end: a call that it places is of one of the six groups, and that group's
queue has room for it, the call of the key's own record not counted (R100). -/
def Placeable (s : State) (key : Option BadgeKey) : Ending → Prop
  | .create g _ _ => ∃ k, key = some k ∧ (1 ≤ g ∧ g ≤ 6) ∧
      s.queueFull g ((s.tripOfKey k).map (fun x => x.number)) = false
  | .carry x g _ => x ∈ s.trips ∧ x.settled = true ∧ (1 ≤ g ∧ g ≤ 6) ∧
      s.queueFull g (some x.number) = false
  | .deny _ | .retry _ | .repeated _ => True

section
variable {s : State} {e : BadgeEntry} {k : BadgeKey} {l g : Nat} {transfer : Option Nat}

theorem stage10New_placeable (hg : 1 ≤ g ∧ g ≤ 6) :
    Placeable s (some k) (s.stage10New e (s.tripOfKey k) l g transfer) := by
  unfold State.stage10New
  split
  · next x hx =>
    split_ifs with _ hfull
    · trivial
    · trivial
    · exact ⟨k, rfl, hg, by rw [hx]; exact Bool.eq_false_iff.2 hfull⟩
  · next hx =>
    split_ifs with hfull
    · trivial
    · exact ⟨k, rfl, hg, by rw [hx]; exact Bool.eq_false_iff.2 hfull⟩

theorem stages9to10_placeable {c : TerminalConfig} {pass : Option Trip}
    (hfixed : ∀ g, c.binding = .fixed g → 1 ≤ g ∧ g ≤ 6)
    (hpass : ∀ x, pass = some x → x ∈ s.trips ∧ x.settled = true) :
    Placeable s (some k) (s.stages9to10 e c (s.tripOfKey k) pass l) := by
  have hgroup : ∀ g, routeGroup (s.route c.binding pass.isSome c.origin l) = some g →
      1 ≤ g ∧ g ≤ 6 := fun g => route_group hfixed
  unfold State.stages9to10
  split
  · trivial
  · trivial
  · trivial
  · next g hg =>
    rw [hg] at hgroup
    split
    · next x =>
      split_ifs with hfull
      · trivial
      · exact ⟨(hpass x rfl).1, (hpass x rfl).2, hgroup g rfl, Bool.eq_false_iff.2 hfull⟩
    · exact stage10New_placeable (hgroup g rfl)
  · next g via hg =>
    rw [hg] at hgroup
    exact stage10New_placeable (hgroup g rfl)

theorem continued_some {origin : Nat} {w : Wish} {x : Trip}
    (h : continued origin (s.tripOfKey k) w = some x) : x ∈ s.trips ∧ x.settled = true := by
  obtain ⟨hx, hw⟩ := Option.filter_eq_some_iff.1 h
  refine ⟨tripOfKey_mem hx, ?_⟩
  rw [Trip.waitsAt, Bool.and_eq_true, Bool.and_eq_true, decide_eq_true_iff] at hw
  simp [Trip.settled, hw.1.1]

theorem decision_placeable (h : LimitsWithin s.tables) (p : Presentation) :
    Placeable s (s.decision p).key (s.decision p).ending := by
  have hentry : ∀ k e, Placeable s (some k) (s.decideEntry p k e).ending := by
    intro k e
    unfold State.decideEntry
    dsimp only
    split
    · trivial
    · split
      · trivial
      · trivial
      · split
        · trivial
        · exact stages9to10_placeable (h.2 p.terminal) fun x hx => continued_some hx
  have hword : Placeable s (s.decideWord p).key (s.decideWord p).ending := by
    unfold State.decideWord
    dsimp only
    split
    · trivial
    · split
      · trivial
      · split
        · trivial
        · exact hentry _ _
  unfold State.decision
  split_ifs
  · trivial
  · trivial
  · split
    · trivial
    · trivial
    · exact hword
    · exact hword

end

/-! ## Trips, calls and limits -/

/-- The tables that bear on the limits. -/
def limitParts (s : State) : Store GroupConfig × Store TerminalConfig × Option Image × Option SaveJob :=
  (s.tables.groups, s.tables.terminals, s.image, s.saving)

/-- What `CallsWithin` speaks of: the limits, and the ledger. -/
def callParts (s : State) := (limitParts s, s.trips, s.groups)

section
variable {s t : State}

theorem limitsWithin_congr {t u : Tables} (hg : t.groups = u.groups)
    (ht : t.terminals = u.terminals) (h : LimitsWithin u) : LimitsWithin t := by
  unfold LimitsWithin
  rw [hg, ht]
  exact h

theorem limits_of_parts (h : EveryTables LimitsWithin s) (e : limitParts t = limitParts s) :
    EveryTables LimitsWithin t := by
  simp only [limitParts, Prod.mk.injEq] at e
  obtain ⟨hg, ht, hi, hs⟩ := e
  unfold EveryTables
  rw [hi, hs]
  exact ⟨limitsWithin_congr hg ht h.1, h.2⟩

/-- The ledger is kept, and the limits stay. -/
theorem CallsWithin.of_booked (h : CallsWithin s) (hb : Booked t)
    (e : limitParts t = limitParts s) : CallsWithin t :=
  (callsWithin_iff t).2 ⟨limits_of_parts h.1 e, hb⟩

theorem CallsWithin.booked (h : CallsWithin s) : Booked s := ((callsWithin_iff s).1 h).2

theorem CallsWithin.of_parts (h : CallsWithin s) (e : callParts t = callParts s) :
    CallsWithin t := by
  simp only [callParts, Prod.mk.injEq] at e
  obtain ⟨hl, ht, hg⟩ := e
  exact h.of_booked (h.booked.of_eq ht (callsOf_congr hg)) hl

/-- A group's service state and streak may change. -/
theorem CallsWithin.setGroup (h : CallsWithin s) {g : Nat} {v : GroupState}
    (hq : v.queue = (s.group g).queue)
    (ho : v.outstanding = (s.group g).outstanding) : CallsWithin (s.setGroup g v) := by
  refine h.of_booked (Booked.of_eq (t := s.setGroup g v) h.booked rfl
    (callsOf_setGroup_same s fun st => ?_)) rfl
  unfold callsOf GroupState.calls
  rw [hq, ho]

/-! ### The ports and the Denial Monitor -/

theorem CallsWithin.placeCancel (h : CallsWithin s) (c : Cancel) : CallsWithin (s.placeCancel c) :=
  h.of_parts (by rw [State.placeCancel_frame]; rfl)

theorem CallsWithin.endAwait (h : CallsWithin s) (x : Trip) (a : Answer) :
    CallsWithin (s.endAwait x a) :=
  h.of_parts (by rw [State.endAwait_frame]; rfl)

theorem CallsWithin.miss (h : CallsWithin s) (x : Exchange) : CallsWithin (s.miss x) :=
  h.of_parts (by rw [State.miss_frame]; rfl)

theorem CallsWithin.goodReply (h : CallsWithin s) (x : Exchange) : CallsWithin (s.goodReply x) :=
  h.of_parts (by rw [State.goodReply_frame]; rfl)

theorem CallsWithin.signOfLifeFrom (h : CallsWithin s) (station : Nat) :
    CallsWithin (s.signOfLifeFrom station) := by
  unfold State.signOfLifeFrom
  split
  · exact h
  · next g _ =>
    rcases s.signOfLife_cases g with ⟨-, e⟩ | ⟨-, e⟩ <;> rw [e]
    · exact (h.setGroup (g := g) (v := { s.group g with service := .inService, streak := 0 })
        rfl rfl).of_parts rfl
    · exact h

theorem CallsWithin.handOn (h : CallsWithin s) (f : Frame) : CallsWithin (s.handOn f) :=
  CallsWithin.signOfLifeFrom (s := { s with gReceiver := .idle }) (h.of_parts rfl) f.source

theorem CallsWithin.offerToNetwork (h : CallsWithin s) (kind : Nat) (frame : List Byte) :
    CallsWithin (s.offerToNetwork kind frame) := by
  unfold State.offerToNetwork
  split_ifs
  · exact h.of_parts rfl
  · exact h.of_parts rfl
  · exact h

/-! ### The decision -/

theorem CallsWithin.applyEnding (h : CallsWithin s) {u : Nat} {d : Decision}
    (hd : Placeable s d.key d.ending) : CallsWithin (s.applyEnding u d) := by
  unfold State.applyEnding
  split
  · refine h.of_parts ?_
    split_ifs <;> rw [State.deny_frame] <;> rfl
  · exact h.of_parts (by rw [State.placeAnswer_frame]; rfl)
  · exact h.of_parts (by rw [State.placeAnswer_frame]; rfl)
  · next hending =>
    rw [hending] at hd
    obtain ⟨k, hk, hg, hfull⟩ := hd
    rw [hk]
    exact h.of_booked (h.booked.createTrip hg hfull) (by rw [State.createTrip_frame]; rfl)
  · next hending =>
    rw [hending] at hd
    obtain ⟨hx, hset, hg, hfull⟩ := hd
    exact h.of_booked (h.booked.carryOn hx hset hg hfull) (by rw [State.carryOn_frame]; rfl)

theorem CallsWithin.takePresent (h : CallsWithin s) (u : Nat) (payload : List Byte) :
    CallsWithin (s.takePresent u payload) := by
  unfold State.takePresent
  split_ifs
  · exact h.of_parts rfl
  · unfold State.admission
    dsimp only
    exact (h.applyEnding (decision_placeable h.1.1 _)).of_parts
      (by rw [State.queueReport_frame]; rfl)

/-! ### Alarm lines and recall -/

theorem CallsWithin.raiseLine (h : CallsWithin s) (c : LineConfig) (k : EventKind) :
    CallsWithin (s.raiseLine c k) :=
  h.of_parts (by rw [State.raiseLine_frame]; rfl)

theorem CallsWithin.followActive (h : CallsWithin s) (k : Nat) (was : Bool) :
    CallsWithin (s.followActive k was) :=
  h.of_parts (by rw [State.followActive_frame]; rfl)

/-- After the clearing of every group none holds a call, whatever the table lists (R142). -/
theorem get_cleared (groups : Store GroupState) (g : Nat) (st : TripState) :
    GroupState.calls (Store.get {} (groups.mapValues {} GroupState.cleared) g) st = [] := by
  have hempty : ∀ v : GroupState, v.queue = [] → v.outstanding = [] →
      GroupState.calls v st = [] := by
    intro v hq ho
    unfold GroupState.calls
    rw [hq, ho]
    cases st <;> rfl
  by_cases hd : Store.get {} (groups.mapValues {} GroupState.cleared) g = {}
  · rw [hd]
    exact hempty _ rfl rfl
  · have hmem := Store.mem_of_get_ne _ _ _ hd
    obtain ⟨e, -, he⟩ := List.mem_map.1 (List.mem_of_mem_filter hmem)
    have hv : e.2.cleared = Store.get {} (groups.mapValues {} GroupState.cleared) g :=
      congrArg Prod.snd he
    exact hv ▸ hempty e.2.cleared rfl rfl

theorem ledger_empty {calls : TripState → Nat → List Call} (h : ∀ st g, calls st g = []) :
    Ledger [] calls := by
  refine ⟨Nat.zero_le _, List.nodup_nil, List.nodup_nil, nofun, fun g => ?_, fun g => ?_,
    fun st g _ => ?_⟩
  · rw [h]
    exact Nat.zero_le _
  · rw [h]
    exact Nat.zero_le _
  · rw [h]
    exact ⟨List.nodup_nil, nofun, nofun⟩

theorem CallsWithin.recallEntry (h : CallsWithin s) : CallsWithin s.recallEntry := by
  have hbooked : Booked s.recallEntry := by
    rw [State.recallEntry_frame]
    exact ledger_empty fun st g => get_cleared s.groups g st
  exact h.of_booked hbooked (by rw [State.recallEntry_frame]; rfl)

theorem CallsWithin.formMode (h : CallsWithin s) : CallsWithin s.formMode := by
  rcases s.formMode_cases with ⟨-, e⟩ | ⟨-, -, e⟩ | ⟨-, -, e⟩ <;> rw [e]
  · exact h
  · exact CallsWithin.recallEntry (h.of_parts (by rfl))
  · exact h.of_parts rfl

theorem CallsWithin.acceptLevel (h : CallsWithin s) (k : Nat) (v : Level) :
    CallsWithin (s.acceptLevel k v) :=
  (CallsWithin.followActive (h.of_parts (by rfl)) k _).formMode

theorem CallsWithin.startDebounce (h : CallsWithin s) (k : Nat) :
    CallsWithin (s.startDebounce k) := by
  unfold State.startDebounce
  split_ifs
  · exact h.acceptLevel k _
  · exact h.of_parts rfl

/-! ### The Call Exchange -/

theorem CallsWithin.withdrawQueue (h : CallsWithin s) (g : Nat) : CallsWithin (s.withdrawQueue g) :=
  h.of_booked (h.booked.withdrawQueue g) (by rw [State.withdrawQueue_frame]; rfl)

theorem CallsWithin.holdGroup (h : CallsWithin s) (g : Nat) : CallsWithin (s.holdGroup g) := by
  unfold State.holdGroup
  split_ifs
  · exact h
  · exact CallsWithin.withdrawQueue (h.setGroup (by rfl) (by rfl)) g

theorem CallsWithin.raiseStreak (h : CallsWithin s) (g : Nat) : CallsWithin (s.raiseStreak g) := by
  unfold State.raiseStreak
  dsimp only
  split_ifs
  · exact CallsWithin.withdrawQueue ((h.setGroup (g := g) (v := { s.group g with
      service := .silent, streak := min 3 ((s.group g).streak + 1) }) rfl rfl).of_parts (by rfl)) g
  · exact h.setGroup rfl rfl

theorem limits_assignTrip (s : State) (x : Trip) (car : Nat) :
    limitParts (s.assignTrip x car) = limitParts s := by
  have hadvanced : limitParts (advanced s x car) = limitParts s := by
    unfold advanced
    split_ifs
    · unfold State.countDown
      split
      · rfl
      · split
        · rfl
        · split <;> rfl
    · rfl
  rw [assignTrip_eq, State.endAwait_frame]
  split_ifs <;> exact hadvanced

theorem CallsWithin.takeAssign (h : CallsWithin s) (g tag car : Nat) :
    CallsWithin (s.takeAssign g tag car) := by
  unfold State.takeAssign
  split
  · exact h
  · split
    · next o ho =>
      refine h.of_booked (h.booked.assignOutstanding (outstandingOf_mem ho).1 car) ?_
      unfold State.assignCall
      dsimp only
      split
      · rfl
      · exact limits_assignTrip _ _ _
    · split
      · exact h
      · exact h.placeCancel _

theorem CallsWithin.failOutstanding (h : CallsWithin s) {g tag : Nat} {o : Outstanding}
    (ho : s.outstandingOf g tag = some o) (r : Reason) :
    CallsWithin ((s.removeOutstanding g tag).failTrip o.call.trip r) := by
  obtain ⟨hmem, rfl⟩ := outstandingOf_mem ho
  exact h.of_booked (h.booked.failOutstanding hmem r) (by rw [State.failTrip_frame]; rfl)

theorem CallsWithin.takeDecline (h : CallsWithin s) (g tag code : Nat) :
    CallsWithin (s.takeDecline g tag code) := by
  unfold State.takeDecline
  split
  · exact h
  · next o ho => exact h.failOutstanding ho _

theorem CallsWithin.expireTrip (h : CallsWithin s) (n : Nat) {st : TripState}
    (hst : st = .assigned ∨ st = .awaitingTransfer) : CallsWithin (s.expireTrip n st) := by
  unfold State.expireTrip
  split
  · exact h
  · next x hx =>
    split
    · exact h
    · next d _ =>
      split
      · next hexpire =>
        have hstate : x.state = st := of_decide_eq_true (Bool.and_eq_true_iff.1 hexpire).2
        have hset : x.settled = true := by
          rcases hst with rfl | rfl <;> simp [Trip.settled, hstate]
        obtain rfl := tripOf_number hx
        exact h.of_booked (Booked.of_eq (h.booked.removeTrip (tripOf_mem hx) hset) rfl rfl) rfl
      · exact h

end

end Sys2Proof.Safety
end

section
/-! SUPPORT. What every command but the requests makes of the FIFOs, the answers, the trips and the calls (R59, R67, R107, R126 to R131, R136, R139, R166 to R171, R185, R188 to R192). -/

namespace Sys2Proof.Safety

open Sys2Proof.Machine

/-- Everything that waits is within its capacity; the response FIFO holds no more than `n`. -/
def Within (n : Nat) (s : State) : Prop := Waiting n s ∧ CallsWithin s

theorem fifosWithin_iff (s : State) : FifosWithin s ↔ Within 4 s := by
  constructor
  · rintro ⟨h1, h2, h3, h4, h5, h6, h7, hanswers, hcalls⟩
    exact ⟨⟨⟨h1, h2, h3, h4, h5, h6, h7⟩, hanswers⟩, hcalls⟩
  · rintro ⟨⟨⟨h1, h2, h3, h4, h5, h6, h7⟩, hanswers⟩, hcalls⟩
    exact ⟨h1, h2, h3, h4, h5, h6, h7, hanswers, hcalls⟩

/-- What `Within` speaks of. -/
def withinParts (s : State) := (waitingParts s, callParts s)

section
variable {n : Nat} {s t : State}

theorem Within.of_parts (h : Within n s) (e : withinParts t = withinParts s) :
    Within n t :=
  ⟨h.1.of_parts (congrArg Prod.fst e), h.2.of_parts (congrArg Prod.snd e)⟩

/-- The FIFOs of the ports change, and nothing else of what is kept. -/
theorem Within.ports {m : Nat} (h : Within m s) (hports : PortsWithin n t)
    (e : (answerParts t, callParts t) = (answerParts s, callParts s)) : Within n t :=
  ⟨⟨hports, h.1.2.of_parts (congrArg Prod.fst e)⟩, h.2.of_parts (congrArg Prod.snd e)⟩

/-- The exchange ends, or is another one of the same station. -/
theorem Within.exchange (h : Within n s)
    (hx : ∀ x, t.exchange = some x → ∃ y, s.exchange = some y ∧ y.station = x.station)
    (e : (portParts t, t.answers, t.terminals, callParts t) =
      (portParts s, s.answers, s.terminals, callParts s)) : Within n t := by
  simp only [Prod.mk.injEq] at e
  obtain ⟨hports, ha, ht, hc⟩ := e
  refine ⟨⟨h.1.1.of_parts hports,
    h.1.2.mono (ha ▸ List.Sublist.refl _) (fun u m hu => ?_) hx⟩, h.2.of_parts hc⟩
  rwa [State.terminal, ht] at hu

theorem Within.raise (h : Within n s) (k : EventKind) : Within n (s.raise k) :=
  ⟨h.1.raise k, h.2.of_parts rfl⟩

theorem Within.keepService (h : Within n s) {u : Nat} {v : TerminalState}
    (hv : v.service = (s.terminal u).service) : Within n (s.setTerminal u v) :=
  ⟨h.1.keepService hv, h.2.of_parts rfl⟩

theorem Within.endService (h : Within n s) {u : Nat} {v : TerminalState}
    (hv : v.service.pendingTrip = none) : Within n (s.setTerminal u v) :=
  ⟨h.1.endService hv, h.2.of_parts rfl⟩

theorem Within.formMode (h : Within n s) : Within n s.formMode := ⟨h.1.formMode, h.2.formMode⟩

theorem Within.raiseLine (h : Within n s) (c : LineConfig) (k : EventKind) :
    Within n (s.raiseLine c k) :=
  ⟨h.1.raiseLine c k, h.2.raiseLine c k⟩

theorem Within.acceptLevel (h : Within n s) (k : Nat) (v : Level) : Within n (s.acceptLevel k v) :=
  ⟨h.1.acceptLevel k v, h.2.acceptLevel k v⟩

theorem Within.startDebounce (h : Within n s) (k : Nat) : Within n (s.startDebounce k) :=
  ⟨h.1.startDebounce k, h.2.startDebounce k⟩

theorem Within.handOn (h : Within n s) (f : Frame) : Within n (s.handOn f) :=
  ⟨h.1.handOn f, h.2.handOn f⟩

theorem Within.miss (h : Within n s) (x : Exchange) : Within n (s.miss x) :=
  ⟨h.1.miss x, h.2.miss x⟩

theorem Within.goodReply (h : Within n s) (x : Exchange) : Within n (s.goodReply x) :=
  ⟨h.1.goodReply x, h.2.goodReply x⟩

/-! ## The Terminal Port (04) -/

theorem mem_stations (u : Nat) : u ∈ stations ↔ 1 ≤ u ∧ u ≤ 64 := by
  simp only [stations, List.mem_map, List.mem_range]
  constructor
  · rintro ⟨i, hi, rfl⟩
    omega
  · rintro ⟨h1, h64⟩
    exact ⟨u - 1, by omega, by omega⟩

theorem nextPoll_mem {fuel round position round' u : Nat}
    (h : s.nextPoll fuel round position = some (round', u)) : u ∈ stations := by
  induction fuel generalizing round position with
  | zero => exact nomatch h
  | succ fuel ih =>
    rw [State.nextPoll] at h
    split at h
    · next hfind =>
      obtain ⟨-, rfl⟩ := Prod.mk.inj (Option.some.inj h)
      exact List.mem_of_find?_eq_some hfind
    · exact ih h

theorem Within.execSendPoll (h : Within n s) : Leaves (Within n) (execSendPoll s) := by
  refine leaves_next ?_
  split
  · split
    · exact h
    · next hpoll =>
      obtain ⟨hlength, hnodup, hidle, hstation, -⟩ := h.1.2
      refine ⟨⟨h.1.1.of_parts rfl, hlength, hnodup, hidle, hstation, ?_⟩, h.2.of_parts rfl⟩
      rintro _ ⟨⟩
      exact (mem_stations _).1 (nextPoll_mem hpoll)
  · exact h

theorem Within.endExchange (h : Within n s) : Within n s.endExchange :=
  h.exchange nofun rfl

theorem Within.execReplyTimeExpiry (h : Within n s) :
    Leaves (Within n) (execReplyTimeExpiry s) := by
  refine leaves_next ?_
  split
  · exact h
  · split
    · exact h
    · next x _ _ =>
      have hended : Within n { s.reach x.deadline with exchange := none } := h.exchange nofun rfl
      exact hended.miss x

theorem replyFrame_exchange {r : Reception} {x : Exchange} {f : Frame}
    (h : s.replyFrame r = some (x, f)) : s.exchange = some x := by
  unfold State.replyFrame at h
  split at h
  · split at h
    · next hx _ =>
      split at h
      · obtain ⟨rfl, -⟩ := Prod.mk.inj (Option.some.inj h)
        exact hx
      · exact nomatch h
    · exact nomatch h
  · exact nomatch h

theorem Within.execPollReply (h : Within n s) (r : Reception) :
    Leaves (Within n) (execPollReply r s) := by
  refine leaves_next ?_
  split
  · exact h
  · next x f _ =>
    have hgood : Within n (s.endExchange.goodReply x) := h.endExchange.goodReply x
    dsimp only
    split_ifs
    · exact h
    · exact hgood
    · refine ⟨⟨hgood.1.1.offerToNetwork _ _, hgood.1.2.of_parts ?_⟩, hgood.2.offerToNetwork _ _⟩
      unfold State.offerToNetwork
      split_ifs <;> rfl

theorem Within.execPresentReply (h : Within n s) (r : Reception) :
    Leaves (Within n) (execPresentReply r s) := by
  refine leaves_next ?_
  split
  · exact h
  · next x f hx =>
    have hgood : Within n (s.endExchange.goodReply x) := h.endExchange.goodReply x
    obtain ⟨h1, h64⟩ := h.1.2.2.2.2.2 x (replyFrame_exchange hx)
    dsimp only
    split_ifs
    · exact h
    · exact hgood
    · exact ⟨hgood.1.takePresent h1 h64 _, hgood.2.takePresent _ _⟩

theorem Within.execDecayExpiry (h : Within n s) (u : Nat) :
    Leaves (Within n) (execDecayExpiry u s) := by
  refine leaves_next ?_
  split
  · exact h
  · split
    · exact Within.keepService (h.of_parts (by rfl)) (by rfl)
    · exact h

theorem Within.execHoldExpiry (h : Within n s) (u : Nat) :
    Leaves (Within n) (execHoldExpiry u s) := by
  refine leaves_next ?_
  split
  · split
    · exact Within.endService (h.of_parts (by rfl)) (by rfl)
    · exact h
  all_goals exact h

theorem Within.execSendAnswer (h : Within n s) : Leaves (Within n) (execSendAnswer s) := by
  refine leaves_next ?_
  split
  · exact h
  · next a rest ha =>
    have hrest : Within n { s with answers := rest } := by
      refine ⟨⟨h.1.1.of_parts rfl, h.1.2.mono ?_ (fun _ _ hu => hu) fun x hx => ⟨x, hx, rfl⟩⟩,
        (h.2.of_parts (by rfl))⟩
      exact ha ▸ List.sublist_cons_self a rest
    have hclear : Within n (({ s with answers := rest } : State).setTerminal a.terminal
        { s.terminal a.terminal with overrun := false }) := hrest.keepService rfl
    dsimp only
    split_ifs
    · exact hclear.of_parts rfl
    · exact hclear
    · exact h

theorem rest_length_le {α : Type} {l rest : List α} {a : α} {m : Nat} (h : l.length ≤ m)
    (e : l = a :: rest) : rest.length ≤ m :=
  (Nat.le_succ _).trans ((congrArg List.length e).symm.trans_le h)

theorem Within.execSendGToTRelay (h : Within n s) : Leaves (Within n) (execSendGToTRelay s) := by
  refine leaves_next ?_
  split
  · exact h
  · next frame rest hframe =>
    have hrest : Within n { s with toTerminals := rest } :=
      h.ports { h.1.1 with toTerminals := rest_length_le h.1.1.toTerminals hframe } rfl
    dsimp only
    split_ifs
    · exact hrest.of_parts rfl
    · exact hrest
    · exact h

theorem Within.execReceiverIdle (h : Within n s) (port : Port) :
    Leaves (Within n) (execReceiverIdle port s) := by
  refine leaves_next ?_
  cases port <;> dsimp only <;> split
  · exact h.of_parts rfl
  · exact h
  · exact h.of_parts rfl
  · exact h

theorem Within.execReceptionStart (h : Within n s) (port : Port) :
    Leaves (Within n) (execReceptionStart port s) := by
  refine leaves_next ?_
  cases port <;> dsimp only <;> split
  · refine h.exchange (fun x hx => ?_) rfl
    obtain ⟨y, hy, rfl⟩ := Option.map_eq_some_iff.1 hx
    exact ⟨y, hy, rfl⟩
  · exact h
  · exact h.of_parts rfl
  · exact h

theorem Within.endOnT (h : Within n s) (r : Reception) : Within n (s.endOnT r) := by
  have houtside : Within n (if (judge r).isNone then
      ({ s with tReceiver := .idle } : State).raise .linkErrors
      else { s with tReceiver := .idle }) := by
    split_ifs
    · exact Within.raise (h.of_parts (by rfl)) _
    · exact h.of_parts rfl
  unfold State.endOnT
  dsimp only
  split
  · exact houtside
  · split_ifs
    · exact Within.raise (h.of_parts (by rfl)) _
    · exact h.of_parts rfl
    · exact h
    · exact (h.endExchange.raise _).miss _

theorem Within.endOnG (h : Within n s) (r : Reception) : Within n (s.endOnG r) := by
  unfold State.endOnG
  split
  · exact Within.raise (h.of_parts (by rfl)) _
  · split
    · exact h.of_parts rfl
    · exact h.handOn _
    all_goals exact h

theorem Within.execReceptionEnd (h : Within n s) (port : Port) (r : Reception) :
    Leaves (Within n) (execReceptionEnd port r s) := by
  refine leaves_next ?_
  cases port <;> dsimp only <;> split
  · exact h.endOnT r
  · exact h
  · exact h.endOnG r
  · exact h

/-! ## What the G-port receives (R132 to R136, R166, R168) -/

theorem Within.execReceiveMreq (h : Within n s) (r : Reception) :
    Leaves (Within n) (execReceiveMreq r s) := by
  refine leaves_next ?_
  split
  · exact h
  · next f _ =>
    have hon := h.handOn f
    dsimp only
    split_ifs with hroom
    · exact hon.ports { hon.1.1 with requests := List.length_append.trans_le hroom } rfl
    · exact hon.raise _

theorem Within.execReceiveGToTRelay (h : Within n s) (r : Reception) :
    Leaves (Within n) (execReceiveGToTRelay r s) := by
  refine leaves_next ?_
  split
  · exact h
  · next f _ =>
    have hon := h.handOn f
    dsimp only
    split_ifs with _ hroom
    · exact hon.ports { hon.1.1 with toTerminals := List.length_append.trans_le hroom } rfl
    · exact hon.raise _
    · exact hon

theorem Within.execReceiveAssign (h : Within n s) (r : Reception) :
    Leaves (Within n) (execReceiveAssign r s) := by
  refine leaves_next ?_
  split
  · exact h
  · next f _ =>
    have hon := h.handOn f
    dsimp only
    split
    · exact hon
    · split_ifs
      · exact hon
      · exact ⟨hon.1.takeAssign _ _ _, hon.2.takeAssign _ _ _⟩

theorem Within.execReceiveDecline (h : Within n s) (r : Reception) :
    Leaves (Within n) (execReceiveDecline r s) := by
  refine leaves_next ?_
  split
  · exact h
  · next f _ =>
    have hon := h.handOn f
    dsimp only
    split
    · exact hon
    · split_ifs
      · exact hon
      · exact ⟨hon.1.takeDecline _ _ _, hon.2.takeDecline _ _ _⟩

/-- The call leaves the table, its cancel is placed and its trip fails. -/
theorem CallsWithin.timeOut (h : CallsWithin s) {g tag d : Nat} {o : Outstanding}
    (ho : s.outstandingOf g tag = some o) : CallsWithin
      ((((s.reach d).removeOutstanding g tag).placeCancel ⟨g, tag⟩).failTrip o.call.trip
        .noAnswer) := by
  obtain ⟨hmem, rfl⟩ := outstandingOf_mem ho
  have hgroups : ∀ (u : State) m r, (State.failTrip u m r).groups = u.groups := by
    intro u m r
    rw [State.failTrip_frame]
  refine h.of_booked ((h.booked.failOutstanding hmem .noAnswer).of_eq ?_ (callsOf_congr ?_)) ?_
  · rw [State.failTrip_trips, State.failTrip_trips, State.placeCancel_frame]
    rfl
  · rw [hgroups, hgroups, State.placeCancel_frame]
    rfl
  · rw [State.failTrip_frame, State.placeCancel_frame]
    rfl

theorem Within.execAnswerTimeout (h : Within n s) (g tag : Nat) :
    Leaves (Within n) (execAnswerTimeout g tag s) := by
  refine leaves_next ?_
  split
  · exact h
  · next ho =>
    split_ifs
    · exact ⟨Waiting.raiseStreak (Waiting.failTrip (Waiting.placeCancel (h.1.of_parts (by rfl)) _) _ _) _,
        (h.2.timeOut ho).raiseStreak _⟩
    · exact h

theorem Within.expireTrip (h : Within n s) (m : Nat) {st : TripState}
    (hst : st = .assigned ∨ st = .awaitingTransfer) : Within n (s.expireTrip m st) := by
  refine ⟨h.1.of_parts ?_, h.2.expireTrip m hst⟩
  unfold State.expireTrip
  split
  · rfl
  · split
    · rfl
    · split <;> rfl

/-! ## What the G-port sends (R170, R171) -/

theorem Within.execSendCancel (h : Within n s) : Leaves (Within n) (execSendCancel s) := by
  refine leaves_next ?_
  split
  · next c rest _ hcancels =>
    have hrest : Within n { s with cancels := rest } :=
      h.ports { h.1.1 with cancels := rest_length_le h.1.1.cancels hcancels } rfl
    dsimp only
    split
    · exact hrest.of_parts rfl
    · exact hrest
  · exact h

theorem arbiter_call {g : Nat} (h : s.arbiter = some (.call g)) : s.sendable g = true := by
  unfold State.arbiter at h
  cases hfind : s.rotation.find? s.sendable with
  | none =>
    rw [hfind] at h
    split_ifs at h <;> exact nomatch h
  | some g' =>
    rw [hfind] at h
    dsimp only at h
    split_ifs at h
    · exact nomatch h
    · obtain rfl := Source.call.inj (Option.some.inj h)
      exact List.find?_some hfind

/-- A group with a sendable CALL has room in its table, its limit being 16 at most (R5, R129). -/
theorem Within.execSendCall (h : Within n s) : Leaves (Within n) (execSendCall s) := by
  refine leaves_next ?_
  split
  · next g hg =>
    split
    · exact h
    · next c rest hq =>
      have hroom : (s.group g).outstanding.length < 16 := by
        have hsend := arbiter_call hg
        simp only [State.sendable, Bool.and_eq_true, decide_eq_true_eq] at hsend
        exact hsend.1.2.trans_le (h.2.1.1.1 g)
      have hbooked := h.2.booked.callSent
        (deadline := s.now + (s.groupConfig g).timeout * 250) hq hroom
      have hsent : Within n ((s.setGroup g { s.group g with
          queue := rest,
          outstanding := (s.group g).outstanding ++
            [⟨c, s.now + (s.groupConfig g).timeout * 250⟩] }).updateTrip c.trip
              (fun x => { x with state := .called })) :=
        ⟨h.1.of_parts (by rfl), h.2.of_booked hbooked rfl⟩
      dsimp only
      split
      · exact hsent.of_parts rfl
      · exact hsent.of_parts rfl
  · exact h

theorem Within.execSendMrsp (h : Within n s) : Leaves (Within n) (execSendMrsp s) := by
  refine leaves_next ?_
  split
  · next hresponses =>
    exact h.ports { h.1.1 with responses := rest_length_le h.1.1.responses hresponses } rfl
  · exact h

theorem Within.execSendNotice (h : Within n s) : Leaves (Within n) (execSendNotice s) := by
  refine leaves_next ?_
  split
  · next hnotices =>
    exact h.ports { h.1.1 with notices := rest_length_le h.1.1.notices hnotices } rfl
  · exact h

theorem Within.execSendTToGRelay (h : Within n s) : Leaves (Within n) (execSendTToGRelay s) := by
  refine leaves_next ?_
  split
  · next hframes =>
    exact h.ports { h.1.1 with toNetwork := rest_length_le h.1.1.toNetwork hframes } rfl
  · exact h

theorem Within.execSendReport (h : Within n s) : Leaves (Within n) (execSendReport s) := by
  refine leaves_next ?_
  split
  · next hreports =>
    exact h.ports { h.1.1 with reports := rest_length_le h.1.1.reports hreports } rfl
  · exact h

/-! ## The alarm lines, the clock, resets and saves (08, 11) -/

theorem Within.execAlarmInputChange (h : Within n s) (k : Nat) (v : Level) :
    Leaves (Within n) (execAlarmInputChange k v s) := by
  refine leaves_next ?_
  unfold State.watchInput
  dsimp only
  split_ifs
  · exact h
  · exact h.of_parts rfl
  · exact Within.startDebounce (h.of_parts (by rfl)) k
  · exact h.of_parts rfl

theorem Within.execDebounceExpiry (h : Within n s) (k : Nat) :
    Leaves (Within n) (execDebounceExpiry k s) := by
  refine leaves_next ?_
  split
  · exact h
  · split
    · exact Within.acceptLevel (h.of_parts (by rfl)) k _
    · exact h

theorem Within.execClockAdvance (h : Within n s) : Leaves (Within n) (execClockAdvance s) := by
  refine leaves_next ?_
  split
  · exact h
  · exact h.of_parts rfl

/-- The tables in RAM, in the image and in a save's snapshot change among themselves. -/
theorem Within.limits (h : Within n s) (hlimits : EveryTables LimitsWithin t)
    (e : (waitingParts t, t.trips, t.groups) = (waitingParts s, s.trips, s.groups)) :
    Within n t := by
  simp only [Prod.mk.injEq] at e
  obtain ⟨hw, ht, hg⟩ := e
  exact ⟨h.1.of_parts hw,
    (callsWithin_iff t).2 ⟨hlimits, h.2.booked.of_eq ht (callsOf_congr hg)⟩⟩

theorem Within.endSave (h : Within n s) : Within n s.endSave := by
  unfold State.endSave
  split
  · exact h
  · exact h.limits ⟨h.2.1.1, nofun, nofun⟩ rfl

/-- After a reset nothing waits. -/
theorem Within.resetValues (h : Within n s) : Within n s.resetValues := by
  have hsaved := h.endSave
  refine ⟨⟨⟨Nat.zero_le _, Nat.zero_le _, Nat.zero_le _, Nat.zero_le _, Nat.zero_le _,
    Nat.zero_le _, Nat.zero_le _⟩, answersWithin_empty rfl rfl rfl⟩, ?_⟩
  exact (callsWithin_iff _).2 ⟨hsaved.2.1, ledger_empty fun st g => by cases st <;> rfl⟩

theorem Within.execFullResetEnd (h : Within n s) : Leaves (Within n) (execFullResetEnd s) := by
  refine leaves_next ?_
  split
  · exact h.resetValues.of_parts rfl
  · exact h

theorem Within.execRestartMade (h : Within n s) : Leaves (Within n) (execRestartMade s) := by
  refine leaves_next ?_
  split
  · exact h.resetValues
  · exact h

theorem limitsWithin_empty : LimitsWithin {} :=
  ⟨fun _ => (by decide : (4 : Nat) ≤ 16), nofun⟩

theorem Within.loadTables (h : Within n s) : Within n s.loadTables := by
  obtain ⟨-, himage, hsaving⟩ := h.2.1
  unfold State.loadTables
  split
  · next i hi => exact h.limits ⟨himage i hi, himage, hsaving⟩ rfl
  · exact h.limits ⟨limitsWithin_empty, himage, hsaving⟩ rfl

theorem Within.execLoadingEnd (h : Within n s) : Leaves (Within n) (execLoadingEnd s) := by
  have hall : ∀ (ks : List Nat) (u : State), Within n u → Within n (ks.foldl State.startDebounce u) := by
    intro ks
    induction ks with
    | nil => exact fun _ hu => hu
    | cons k ks ih => exact fun u hu => ih _ (hu.startDebounce k)
  refine leaves_next ?_
  split
  · refine hall _ _ ?_
    split_ifs
    · exact h.loadTables
    · exact h.loadTables.raise _
  · exact h

theorem Within.failSave (h : Within n s) : Within n s.failSave := by
  have hended : Within n { s with saving := none, image := none } :=
    h.limits ⟨h.2.1.1, nofun, nofun⟩ rfl
  exact hended.raise _

/-- A step ends: the save goes on when it was verified, and fails otherwise. -/
theorem Within.stepEnds (h : Within n s) {st : SaveStep} {j : SaveJob}
    (hj : s.savingAt st = some j) (verified : Bool) (step : SaveStep) {image : Option Image}
    (himage : image = s.image ∨ image = none) :
    Within n (if verified then
      { s with image := image, saving := some { j with step := step } } else s.failSave) := by
  obtain ⟨htables, hstored, hsnapshot⟩ := h.2.1
  split_ifs
  · refine h.limits ⟨htables, fun i hi => ?_, ?_⟩ rfl
    · rcases himage with rfl | rfl
      · exact hstored i hi
      · exact nomatch hi
    · rintro _ ⟨⟩
      exact hsnapshot j (savingAt_eq_some hj)
  · exact h.failSave

theorem Within.execSaveMarkCleared (h : Within n s) (verified : Bool) :
    Leaves (Within n) (execSaveMarkCleared verified s) := by
  refine leaves_next ?_
  split
  · exact h
  · next hj => exact h.stepEnds hj verified .eraseSectors (.inr rfl)

theorem Within.execSaveSectorsErased (h : Within n s) (verified : Bool) :
    Leaves (Within n) (execSaveSectorsErased verified s) := by
  refine leaves_next ?_
  split
  · exact h
  · next hj => exact h.stepEnds hj verified .programTables (.inl rfl)

theorem Within.execSaveTablesProgrammed (h : Within n s) (verified : Bool) :
    Leaves (Within n) (execSaveTablesProgrammed verified s) := by
  refine leaves_next ?_
  split
  · exact h
  · next hj => exact h.stepEnds hj verified .writeMark (.inl rfl)

theorem Within.execSaveMarkWritten (h : Within n s) (verified : Bool) :
    Leaves (Within n) (execSaveMarkWritten verified s) := by
  refine leaves_next ?_
  split
  · exact h
  · next j hj =>
    split_ifs
    · have hsaved : Within n { s with
          image := some ⟨nextSequence s.imageSequence, j.snapshot⟩
          imageSequence := nextSequence s.imageSequence
          saving := none } := by
        refine h.limits ⟨h.2.1.1, ?_, nofun⟩ rfl
        rintro _ ⟨⟩
        exact h.2.1.2.2 j (savingAt_eq_some hj)
      exact hsaved.raise _
    · exact h.failSave

end

end Sys2Proof.Safety
end

section
/-! SUPPORT. The management requests keep everything that waits within its capacity, and the proof of O55 (R5, R60, R107, R168, R173). -/

namespace Sys2Proof.Safety

open Sys2Proof.Machine

section
variable {s t : State}

/-! ## Requests (R173) -/

/-- A request is taken when the response FIFO has room for its response, so the handling meets a FIFO of 3
at most. -/
theorem Within.serve (h : Within 4 s) {mine : List Byte → Bool} {handle : List Byte → State → Reply}
    (hhandle : ∀ p u, Within 3 u → Within 3 (handle p u).state) :
    Leaves (Within 4) (.next (s.serve mine handle)) := by
  refine leaves_next ?_
  rcases s.serve_cases mine handle with ⟨p, rest, ⟨hrequests, hfree, -⟩, e⟩ | ⟨-, e⟩ <;> rw [e]
  · have hroom : s.responses.length < 4 := by
      simp only [State.agentFree, Bool.and_eq_true, decide_eq_true_eq] at hfree
      exact hfree.1.2
    have htaken : Within 3 { s with requests := rest } :=
      h.ports { h.1.1 with
        requests := rest_length_le h.1.1.requests hrequests
        responses := Nat.le_of_lt_succ hroom } rfl
    have hhandled := hhandle p _ htaken
    exact hhandled.ports { hhandled.1.1 with
      responses := List.length_append.trans_le (Nat.succ_le_succ hhandled.1.1.responses) } rfl
  · exact h

variable {n : Nat} {p : List Byte} {need : Nat} {k : Reply}

theorem Within.checkChange (h : Within n s) (hk : Within n k.state) :
    Within n (s.checkChange p need k).state :=
  checkChange_keeps h (h.raise _) hk

theorem Within.checkCommand (h : Within n s) (hk : Within n k.state) :
    Within n (s.checkCommand p need k).state :=
  checkCommand_keeps h (h.raise _) hk

/-! ### WRITE and ERASE of the tables (R5, R8, R26, R29, R60, R61) -/

/-- A key's pass is dropped (R29). -/
theorem Within.dropPass (h : Within n s) (key : BadgeKey) : Within n (s.dropPass key) :=
  ⟨h.1.of_parts rfl, h.2.of_booked (h.2.booked.dropPass key) rfl⟩

theorem Within.putEntry (h : Within n s) (w : Nat) (e : BadgeEntry) : Within n (s.putEntry w e) := by
  unfold State.putEntry
  dsimp only
  split_ifs
  · exact h.of_parts rfl
  · exact Within.dropPass (h.of_parts (by rfl)) _

theorem Within.placeEntry (h : Within n s) (e : BadgeEntry) : Within n (s.placeEntry e).state := by
  unfold State.placeEntry
  split
  · exact Within.putEntry (h.of_parts (by rfl)) _ _
  · split
    · exact Within.putEntry (h.of_parts (by rfl)) _ _
    · exact h

theorem Within.eraseKey (h : Within n s) (key : BadgeKey) : Within n (s.eraseKey key).state := by
  unfold State.eraseKey
  split
  · exact h
  · exact Within.dropPass (h.of_parts (by rfl)) _

theorem Within.setStandby (h : Within n s) (b : PolicyBank) : Within n (s.setStandby b) := by
  unfold State.setStandby
  split <;> exact h.of_parts rfl

/-- A group's configuration is written; its limit is at most 16. -/
theorem Within.setGroupConfig (h : Within n s) (g : Nat) {c : GroupConfig} (hc : c.limit ≤ 16) :
    Within n (s.setGroupConfig g c) := by
  obtain ⟨⟨hlimit, hbinding⟩, hstored⟩ := h.2.1
  refine h.limits ⟨⟨fun j => ?_, hbinding⟩, hstored⟩ rfl
  change (Store.get ({} : GroupConfig) (Store.set {} s.tables.groups g c) j).limit ≤ 16
  rw [Store.get_set]
  split_ifs
  · exact hc
  · exact hlimit j

theorem groupAt_limit (p : List Byte) : (groupAt p).limit ≤ 16 := by
  change max 1 (min 16 _) ≤ 16
  omega

theorem Within.clearGroup (h : Within n s) (g : Nat) : Within n (s.clearGroup g) := by
  have hcleared : Within n (s.setGroupConfig g {}) :=
    h.setGroupConfig g (by decide : (4 : Nat) ≤ 16)
  exact ⟨hcleared.1.of_parts rfl, CallsWithin.setGroup hcleared.2 rfl rfl⟩

/-- A terminal's configuration is written; a group it is bound to is one of the six. -/
theorem Within.setTerminalConfig (h : Within n s) (u : Nat) {c : TerminalConfig}
    (hc : ∀ g, c.binding = .fixed g → 1 ≤ g ∧ g ≤ 6) : Within n (s.setTerminalConfig u c) := by
  obtain ⟨⟨hlimit, hbinding⟩, hstored⟩ := h.2.1
  refine h.limits ⟨⟨hlimit, fun w g hw => ?_⟩, hstored⟩ rfl
  change (Store.get ({} : TerminalConfig) (Store.set {} s.tables.terminals u c) w).binding = _ at hw
  rw [Store.get_set] at hw
  split_ifs at hw
  · exact hc g hw
  · exact hbinding w g hw

theorem Within.configureTerminal (h : Within n s) (u : Nat) {c : TerminalConfig}
    (hc : ∀ g, c.binding = .fixed g → 1 ≤ g ∧ g ≤ 6) : Within n (s.configureTerminal u c) := by
  unfold State.configureTerminal
  split_ifs
  · exact h.setTerminalConfig u hc
  · exact Within.endService (h.setTerminalConfig u hc) rfl

theorem Within.eraseTerminal (h : Within n s) (u : Nat) : Within n (s.eraseTerminal u) := by
  have hcleared : Within n ((s.setTerminalConfig u {}).setTerminal u {}) :=
    Within.endService (h.setTerminalConfig u (c := {}) nofun) rfl
  unfold State.eraseTerminal
  split_ifs
  · refine hcleared.exchange (fun x hx => ?_) rfl
    obtain ⟨y, hy, rfl⟩ := Option.map_eq_some_iff.1 hx
    refine ⟨y, hy, ?_⟩
    unfold Exchange.lost
    split_ifs <;> rfl
  · exact h

/-- Code 0 is ROUTED and 1 to 6 name a group. -/
theorem bindingOf_fixed {code g : Nat} (hcode : code ≤ 6) (h : bindingOf code = .fixed g) :
    1 ≤ g ∧ g ≤ 6 := by
  unfold bindingOf at h
  split_ifs at h with h0
  obtain rfl := Binding.fixed.inj h
  omega

theorem handleWriteTerminal_within (p : List Byte) (u : State) (h : Within n u) :
    Within n (handleWriteTerminal p u).state := by
  refine h.checkChange (checkIndex_keeps h ?_)
  unfold State.checkField
  split_ifs with hfields
  · simp only [Bool.and_eq_true, decide_eq_true_eq] at hfields
    exact h.configureTerminal _ fun g => bindingOf_fixed hfields.2
  · exact h

/-! ### The alarm lines and the groups (R11, R12, R150, R151) -/

theorem Within.applyTrigger (h : Within n s) (i : Nat) (edge : Bool) :
    Within n (s.applyTrigger i edge) := by
  unfold State.applyTrigger
  dsimp only
  split_ifs
  · exact h
  · exact h.of_parts rfl
  · exact h.of_parts rfl
  · exact Within.raiseLine (h.of_parts (by rfl)) _ _
  · exact h.of_parts rfl
  · exact h.of_parts rfl
  · exact Within.raiseLine (h.of_parts (by rfl)) _ _

theorem Within.followActive (h : Within n s) (i : Nat) (was : Bool) :
    Within n (s.followActive i was) :=
  ⟨h.1.followActive i was, h.2.followActive i was⟩

theorem Within.applyLine (h : Within n s) (i : Nat) (c : LineConfig) : Within n (s.applyLine i c) := by
  have hstored : Within n (s.setLineConfig i
      { c with edge := (s.lineConfig i).edge, activeLow := (s.lineConfig i).activeLow }) := h.of_parts rfl
  have htrigger := hstored.applyTrigger i c.edge
  exact Within.formMode (Within.followActive (htrigger.of_parts (by rfl)) i _)

theorem Within.unlatch (h : Within n s) (i : Nat) : Within n (s.unlatch i) :=
  Within.formMode (Within.raiseLine (h.of_parts (by rfl)) _ _)

theorem Within.holdGroup (h : Within n s) (g : Nat) : Within n (s.holdGroup g) :=
  ⟨h.1.holdGroup g, h.2.holdGroup g⟩

theorem Within.resumeGroup (h : Within n s) (g : Nat) : Within n (s.resumeGroup g) := by
  unfold State.resumeGroup
  split_ifs
  · exact h
  · exact ⟨h.1.of_parts rfl, h.2.setGroup rfl rfl⟩

/-- A terminal that is released awaits a trip only if it did. -/
theorem Within.freeTerminal (h : Within n s) (u : Nat) :
    Within n (s.setTerminal u (s.terminal u).freed) := by
  refine ⟨h.1.setTerminal fun m hm => ?_, h.2.of_parts rfl⟩
  unfold TerminalState.freed at hm
  dsimp only at hm
  split at hm
  · exact nomatch hm
  · exact nomatch hm
  · exact nomatch hm
  · next hs => exact hs.trans hm

/-! ### The other requests -/

theorem handleRead_within (p : List Byte) (u : State) (h : Within n u) :
    Within n (handleRead p u).state := by
  have hpolicy : ∀ size record, Within n (u.readPolicy p size record).state := by
    intro size record
    unfold State.readPolicy
    refine checkIndex_keeps h ?_
    split <;> exact h
  have htable : ∀ lo hi record, Within n (u.readTable p lo hi record).state :=
    fun lo hi record => checkIndex_keeps h h
  have hway : Within n (u.readWay p).state := by
    unfold State.readWay
    refine checkIndex_keeps h ?_
    split
    · exact h
    · exact h.of_parts rfl
  refine checkLength_keeps h ?_
  split
  case h_1 => exact hway
  case h_2 | h_3 | h_4 | h_5 => exact hpolicy _ _
  case h_14 | h_15 => exact h
  all_goals exact htable _ _ _

theorem handleFind_within (p : List Byte) (u : State) (h : Within n u) :
    Within n (handleFind p u).state := by
  refine checkLength_keeps h ?_
  split
  · exact h
  · split
    · exact h
    · exact h.of_parts rfl

theorem handleUndefined_within (p : List Byte) (u : State) (h : Within n u) :
    Within n (handleUndefined p u).state := by
  unfold handleUndefined
  split_ifs
  · exact h
  · exact checkLength_keeps h (checkCode_keeps (h.raise _) (checkSaving_keeps h h))
  · exact checkLength_keeps h h

theorem handleWriteSettings_within (p : List Byte) (u : State) (h : Within n u) :
    Within n (handleWriteSettings p u).state := by
  refine h.checkChange (checkIndex_keeps h ?_)
  split
  · exact h
  · exact h.of_parts rfl

/-- A save's snapshot has the limits of the tables (R188). -/
theorem Within.saveBegun (h : Within n s) :
    Within n { s with saving := some ⟨.clearMark, s.snapshot⟩ } := by
  obtain ⟨htables, himage, -⟩ := h.2.1
  refine h.limits ⟨htables, himage, ?_⟩ rfl
  rintro _ ⟨⟩
  exact htables

/-! ## Every step -/

theorem Within.exec (h : Within 4 s) (c : Instr) : Leaves (Within 4) (exec c s) := by
  cases c with
  -- resets, LOADING and the clock
  | fullReset => exact leaves_next (h.endSave.of_parts (by rfl))
  | fullResetEnd => exact h.execFullResetEnd
  | loadingEnd => exact h.execLoadingEnd
  | restartMade => exact h.execRestartMade
  | clockAdvance => exact h.execClockAdvance
  -- the Terminal Port
  | sendPoll => exact h.execSendPoll
  | replyTimeExpiry => exact h.execReplyTimeExpiry
  | pollReply r => exact h.execPollReply r
  | presentReply r => exact h.execPresentReply r
  | decayExpiry u => exact h.execDecayExpiry u
  | holdExpiry u => exact h.execHoldExpiry u
  | sendAnswer => exact h.execSendAnswer
  | sendGToTRelay => exact h.execSendGToTRelay
  | receiverIdle port => exact h.execReceiverIdle port
  | receptionStart port => exact h.execReceptionStart port
  | receptionEnd port r => exact h.execReceptionEnd port r
  -- the G-port and the Call Exchange
  | receiveMreq r => exact h.execReceiveMreq r
  | receiveGToTRelay r => exact h.execReceiveGToTRelay r
  | receiveAssign r => exact h.execReceiveAssign r
  | receiveDecline r => exact h.execReceiveDecline r
  | answerTimeout g tag => exact h.execAnswerTimeout g tag
  | repeatGuardExpiry m => exact leaves_next (h.expireTrip m (.inl rfl))
  | transferWindowExpiry m => exact leaves_next (h.expireTrip m (.inr rfl))
  | sendCancel => exact h.execSendCancel
  | sendCall => exact h.execSendCall
  | sendMrsp => exact h.execSendMrsp
  | sendNotice => exact h.execSendNotice
  | sendTToGRelay => exact h.execSendTToGRelay
  | sendReport => exact h.execSendReport
  -- the alarm lines
  | alarmInputChange i v => exact h.execAlarmInputChange i v
  | debounceExpiry i => exact h.execDebounceExpiry i
  -- a save
  | saveMarkCleared verified => exact h.execSaveMarkCleared verified
  | saveSectorsErased verified => exact h.execSaveSectorsErased verified
  | saveTablesProgrammed verified => exact h.execSaveTablesProgrammed verified
  | saveMarkWritten verified => exact h.execSaveMarkWritten verified
  -- reading requests
  | read => exact h.serve handleRead_within
  | find => exact h.serve handleFind_within
  | readStatus => exact h.serve fun _ _ hu => checkLength_keeps hu hu
  | undefinedOperation => exact h.serve handleUndefined_within
  -- WRITE and ERASE
  | writeCredential =>
    exact h.serve fun _ _ hu => hu.checkChange (checkField_keeps hu (hu.placeEntry _))
  | eraseCredential => exact h.serve fun _ _ hu => hu.checkChange (hu.eraseKey _)
  | writeProfile | writeTenant | writeLanding =>
    exact h.serve fun _ _ hu => hu.checkChange (checkIndex_keeps hu
      (checkField_keeps hu (hu.setStandby _)))
  | writeHoliday | eraseProfile | eraseTenant | eraseHoliday | eraseLanding =>
    exact h.serve fun _ _ hu => hu.checkChange (checkIndex_keeps hu (hu.setStandby _))
  | writeGroup =>
    exact h.serve fun p _ hu => hu.checkChange (checkIndex_keeps hu
      (checkField_keeps hu (hu.setGroupConfig _ (groupAt_limit p))))
  | writeSkyLobby | writeFormat | writeFacilityRange =>
    exact h.serve fun _ _ hu => hu.checkChange (checkIndex_keeps hu
      (checkField_keeps hu (hu.of_parts (by rfl))))
  | eraseSkyLobby | eraseFormat | eraseFacilityRange =>
    exact h.serve fun _ _ hu => hu.checkChange (checkIndex_keeps hu (hu.of_parts (by rfl)))
  | eraseGroup =>
    exact h.serve fun _ _ hu => hu.checkChange (checkIndex_keeps hu (ite_keeps hu (hu.clearGroup _)))
  | writeTerminal => exact h.serve handleWriteTerminal_within
  | eraseTerminal =>
    exact h.serve fun _ _ hu => hu.checkChange (checkIndex_keeps hu
      (ite_keeps hu (hu.eraseTerminal _)))
  | writeAlarmLine =>
    exact h.serve fun _ _ hu => hu.checkChange (checkIndex_keeps hu
      (checkField_keeps hu (hu.applyLine _ _)))
  | eraseAlarmLine =>
    exact h.serve fun _ _ hu => hu.checkChange (checkIndex_keeps hu (hu.applyLine _ _))
  | writeSettings => exact h.serve handleWriteSettings_within
  -- commands
  | switchBanks => exact h.serve fun _ _ hu => hu.checkChange (hu.of_parts (by rfl))
  | copyActiveToStandby => exact h.serve fun _ _ hu => hu.checkChange (hu.setStandby _)
  | saveImage => exact h.serve fun _ _ hu => hu.checkChange hu.saveBegun
  | restart | lockZones | unlockZones =>
    exact h.serve fun _ _ hu => hu.checkCommand (hu.of_parts (by rfl))
  | startService =>
    exact h.serve fun _ _ hu => hu.checkCommand (ite_keeps (hu.of_parts (by rfl)) hu)
  | setTime | clearEvents =>
    exact h.serve fun _ _ hu => hu.checkCommand (checkField_keeps hu (hu.of_parts (by rfl)))
  | setSiteCode =>
    exact h.serve fun _ _ hu => hu.checkCommand (ite_keeps hu (hu.of_parts (by rfl)))
  | releaseTerminal =>
    exact h.serve fun _ _ hu => hu.checkCommand (checkIndex_keeps hu (hu.freeTerminal _))
  | ackLine =>
    exact h.serve fun _ _ hu => hu.checkCommand (checkIndex_keeps hu
      (ite_keeps (ite_keeps hu (hu.unlatch _)) hu))
  | holdGroup =>
    exact h.serve fun _ _ hu => hu.checkCommand (checkIndex_keeps hu (hu.holdGroup _))
  | resumeGroup =>
    exact h.serve fun _ _ hu => hu.checkCommand (checkIndex_keeps hu (hu.resumeGroup _))
  | enterRecall | leaveRecall =>
    exact h.serve fun _ _ hu => hu.checkCommand (Within.formMode (hu.of_parts (by rfl)))

theorem Within.idle (h : Within 4 s) : Within 4 s.idle := by
  unfold State.idle
  split_ifs
  · exact h
  · exact h.of_parts rfl

/-- Settles O55: what waits in the ports' FIFOs and the answers (`Waiting`), and the ledger of trips and calls
with the limits on it (`CallsWithin`), are each kept by every shared operation; a command that places an entry
finds its room first, and a trip or an answer that comes takes a number, a tag and a terminal that are free. -/
theorem fifosStayWithin : Obligations.FifosStayWithin := by
  refine kept_of_exec (fun s h => ?_) (fun s rest h => ?_) fun s c h => ?_
  · exact (fifosWithin_iff _).2 ((fifosWithin_iff s).1 h).idle
  · exact (fifosWithin_iff _).2 (((fifosWithin_iff s).1 h).of_parts rfl)
  · exact (((fifosWithin_iff s).1 h).exec c).mono fun t => (fifosWithin_iff t).2

end

end Sys2Proof.Safety
end

section
/-! SUPPORT. The Terminal Port: the round, the poll's end and the transmitter, and the Denial Monitor's timers; the proofs of O6 to O10 and O29 (R62 to R67, R72, R75, R77, R114, R116, R168, R169). -/

namespace Sys2Proof.Safety

open Sys2Proof.Machine

/-! ## The round (R62) -/

section
variable {s : State}

theorem selected_iff {round u : Nat} (hu : 1 ≤ u ∧ u ≤ 64) :
    s.selected round u = true ↔ Polls s round u := by
  simp [State.selected, Polls, hu]

/-- The lowest station that passes a test is the one found. -/
theorem find_station {p : Nat → Bool} {u : Nat} (hu : 1 ≤ u ∧ u ≤ 64) (hp : p u = true)
    (hfirst : ∀ v, 1 ≤ v → v < u → p v = false) : stations.find? p = some u := by
  unfold stations
  rw [List.find?_map, List.find?_range_eq_some.2 ⟨?_, ?_, ?_⟩]
  · exact congrArg some (Nat.sub_add_cancel hu.1)
  · rw [Function.comp_apply, Nat.sub_add_cancel hu.1]
    exact hp
  · exact List.mem_range.2 (by omega)
  · intro i hi
    rw [Function.comp_apply, hfirst (i + 1) (by omega) (by omega)]
    rfl

/-- The rest of the round holds a poll: it is the next. -/
theorem nextPoll_first {fuel round position u : Nat} (hpos : position < u) (hu : Polls s round u)
    (hfirst : ∀ v, position < v → v < u → ¬ Polls s round v) :
    s.nextPoll (fuel + 1) round position = some (round, u) := by
  obtain ⟨h1, h64, hrest⟩ := hu
  have hfind : stations.find? (fun t => decide (position < t) && s.selected round t) = some u := by
    refine find_station ⟨h1, h64⟩ ?_ fun v hv hvu => ?_
    · rw [decide_eq_true hpos, (selected_iff ⟨h1, h64⟩).2 ⟨h1, h64, hrest⟩]
      rfl
    · refine Bool.eq_false_iff.2 fun hsel => ?_
      rw [Bool.and_eq_true, decide_eq_true_iff, selected_iff ⟨hv, by omega⟩] at hsel
      exact hfirst v hsel.1 hvu hsel.2
  rw [State.nextPoll, hfind]

/-- The rest of the round holds no poll: the next round begins. -/
theorem nextPoll_next {fuel round position : Nat}
    (hnone : ∀ v, position < v → ¬ Polls s round v) :
    s.nextPoll (fuel + 1) round position = s.nextPoll fuel ((round + 1) % 8) 0 := by
  have hfind : stations.find? (fun t => decide (position < t) && s.selected round t) = none := by
    refine List.find?_eq_none.2 fun v hv hsel => ?_
    rw [Bool.and_eq_true, decide_eq_true_iff, selected_iff ((mem_stations v).1 hv)] at hsel
    exact hnone v hsel.1 hsel.2
  rw [State.nextPoll, hfind]

/-- Every round before that of count 0 is empty: the first poll of that round is the next. -/
theorem nextPoll_of_absent {u : Nat} (hu : Polls s 0 u) (hfirst : ∀ v, v < u → ¬ Polls s 0 v)
    (hempty : ∀ round v, round ≠ 0 → ¬ Polls s round v) {fuel round : Nat} (hround : round < 8)
    (hfuel : (8 - round) % 8 < fuel) : s.nextPoll fuel round 0 = some (0, u) := by
  induction fuel generalizing round with
  | zero => exact absurd hfuel (Nat.not_lt_zero _)
  | succ fuel ih =>
    by_cases h0 : round = 0
    · subst h0
      exact nextPoll_first hu.1 hu fun v _ hvu => hfirst v hvu
    · rw [nextPoll_next fun v _ => hempty round v h0]
      exact ih (Nat.mod_lt _ (by omega)) (by omega)

theorem nextPoll_none (hnone : ∀ u, ¬ Polls s 0 u) (fuel round position : Nat) :
    s.nextPoll fuel round position = none := by
  have hempty : ∀ round v, ¬ Polls s round v := fun round v hv =>
    hnone v ⟨hv.1, hv.2.1, hv.2.2.1, .inr rfl⟩
  induction fuel generalizing round position with
  | zero => rfl
  | succ fuel ih => rw [nextPoll_next fun v _ => hempty round v, ih]

theorem execSendPoll_some (hfree : TFree s) (ha : s.answers = []) (hr : s.toTerminals = [])
    {round u : Nat} (h : s.nextPoll 9 s.roundCount s.roundPosition = some (round, u)) :
    exec .sendPoll s = .next (polled s round u) := by
  obtain ⟨hw, hx⟩ := hfree
  change execSendPoll s = _
  unfold execSendPoll
  simp only [State.tFree, hw.operating, ha, hr, hx, h]
  rfl

/-- Settles O6, by `nextPoll`: the rest of the round, the next round, and the rounds up to that of count 0. -/
theorem sendPollTakesTheNextStation : Obligations.SendPollTakesTheNextStation := by
  intro s hfree ha hr
  refine ⟨fun u hpos hu hfirst => ?_, fun hrest => ⟨fun u hu hfirst => ?_, fun u hu hfirst habsent => ?_⟩,
    fun hnone => ?_⟩
  · exact execSendPoll_some hfree ha hr (nextPoll_first hpos hu hfirst)
  · refine execSendPoll_some hfree ha hr ?_
    rw [nextPoll_next hrest, nextPoll_first hu.1 hu fun v _ hvu => hfirst v hvu]
  · refine execSendPoll_some hfree ha hr ?_
    have hempty : ∀ round v, round ≠ 0 → ¬ Polls s round v := by
      rintro round v h0 ⟨h1, h64, hconf, hpresent | hzero⟩
      · exact Bool.noConfusion ((habsent v h1 h64 hconf).symm.trans hpresent)
      · exact h0 hzero
    rw [nextPoll_next hrest, nextPoll_of_absent hu hfirst hempty (Nat.mod_lt _ (by omega)) (by omega)]
  · change execSendPoll s = _
    unfold execSendPoll
    rw [nextPoll_none hnone]
    exact congrArg _ (ite_self s)

/-! ## The poll's end (R63 to R65) -/

variable {x : Exchange}

theorem miss_stale (h : x.stale = true) : s.miss x = s := if_pos h

theorem miss_absent (h : x.stale = false) (ha : (s.terminal x.station).absent = true) :
    s.miss x = s.setTerminal x.station { s.terminal x.station with misses := 3 } := by
  simp [State.miss, h, ha]

theorem miss_third (h : x.stale = false) (ha : (s.terminal x.station).absent = false)
    (h2 : 2 ≤ (s.terminal x.station).misses) :
    s.miss x = (s.setTerminal x.station { s.terminal x.station with
      misses := 3, absent := true }).raise .terminalAbsent := by
  simp [State.miss, h, ha, h2]

theorem miss_early (h : x.stale = false) (ha : (s.terminal x.station).absent = false)
    (h2 : (s.terminal x.station).misses < 2) :
    s.miss x = s.setTerminal x.station { s.terminal x.station with
      misses := (s.terminal x.station).misses + 1 } := by
  simp [State.miss, h, ha, Nat.not_le.2 h2]

theorem goodReply_stale (h : x.stale = true) : s.goodReply x = s := if_pos h

theorem goodReply_absent (h : x.stale = false) (ha : (s.terminal x.station).absent = true) :
    s.goodReply x = (s.setTerminal x.station { s.terminal x.station with
      misses := 0, absent := false }).raise .terminalPresent := by
  simp [State.goodReply, h, ha]

theorem goodReply_present (h : x.stale = false) (ha : (s.terminal x.station).absent = false) :
    s.goodReply x = s.setTerminal x.station { s.terminal x.station with
      misses := 0, absent := false } := by
  simp [State.goodReply, h, ha]

/-- A good reply clears the misses and makes the terminal PRESENT (R65). -/
theorem goodReply_terminal (h : x.stale = false) (u : Nat) :
    (s.goodReply x).terminal u = if u = x.station then
      { s.terminal x.station with misses := 0, absent := false } else s.terminal u := by
  cases ha : (s.terminal x.station).absent with
  | true => rw [goodReply_absent h ha, State.raise_terminal, setTerminal_terminal]
  | false => rw [goodReply_present h ha, setTerminal_terminal]

theorem raised_goodReply (h : x.stale = false) : Raised s (s.goodReply x)
    (onlyIf ((s.terminal x.station).absent = true) .terminalPresent) := by
  cases ha : (s.terminal x.station).absent with
  | true =>
    rw [goodReply_absent h ha, onlyIf_true rfl]
    exact ((Raised.refl _).raise (k := .terminalPresent)).of_start (fun _ => rfl) rfl rfl
  | false =>
    rw [goodReply_present h ha, onlyIf_false Bool.false_ne_true]
    exact ⟨fun _ => rfl, rfl⟩

/-- Settles O7, by the cases of `State.miss`: stale, ABSENT already, the third miss, an earlier one. -/
theorem unansweredPollIsAMiss : Obligations.UnansweredPollIsAMiss := by
  intro s x hw hx hbegun v
  let ended : State := { s with now := max s.now x.deadline, exchange := none }
  have hexec : exec .replyTimeExpiry s = .next (ended.miss x) := by
    change execReplyTimeExpiry s = _
    unfold execReplyTimeExpiry
    simp only [hx, hbegun, hw.operating]
    rfl
  refine ⟨ended.miss x, hexec, ended.miss_frame x, miss_stale, fun hstale => ?_⟩
  by_cases ha : v.absent = true
  · rw [miss_absent (s := ended) hstale ha]
    refine ⟨fun u => ?_, fun hf => absurd (ha.symm.trans hf) (by decide), fun _ => ⟨rfl, rfl⟩⟩
    rw [setTerminal_terminal, if_pos ha, ite_not]
    rfl
  · have hpresent : v.absent = false := Bool.eq_false_iff.2 ha
    by_cases h2 : 2 ≤ v.misses
    · rw [miss_third (s := ended) hstale hpresent h2]
      refine ⟨fun u => ?_, fun _ _ => ?_, fun h => ?_⟩
      · rw [State.raise_terminal, setTerminal_terminal, if_neg ha, if_pos h2, ite_not]
        rfl
      · exact counted_raise (ended.setTerminal x.station { v with misses := 3, absent := true }) _
      · exact absurd h (not_or.2 ⟨ha, Nat.not_lt.2 h2⟩)
    · rw [miss_early (s := ended) hstale hpresent (Nat.not_le.1 h2)]
      refine ⟨fun u => ?_, fun _ h => absurd h h2, fun _ => ⟨rfl, rfl⟩⟩
      rw [setTerminal_terminal, if_neg ha, if_neg h2, ite_not]
      rfl

/-! ### Good replies -/

variable {r : Reception} {f : Frame}

theorem GoodReply.replyFrame (h : GoodReply s r x f) : s.replyFrame r = some (x, f) := by
  obtain ⟨hw, hreceiving, hx, hbegun, hjudge, hsource, hdestination⟩ := h
  simp only [State.replyFrame, hw.operating, hreceiving, hx, hbegun, hjudge, hsource, hdestination]
  rfl

/-- What an offer to the relay FIFO leaves: the frame queued, dropped, or not to be relayed (R169). -/
theorem offerToNetwork_cases (s : State) (kind : Nat) (frame : List Byte) :
    (byteOf kind ∈ s.settings.tToG ∧ s.toNetwork.length < 16 ∧
      s.offerToNetwork kind frame = { s with toNetwork := s.toNetwork ++ [frame] }) ∨
    (byteOf kind ∈ s.settings.tToG ∧ 16 ≤ s.toNetwork.length ∧
      s.offerToNetwork kind frame = s.raise .relayLost) ∨
    (byteOf kind ∉ s.settings.tToG ∧ s.offerToNetwork kind frame = s) := by
  unfold State.offerToNetwork
  split_ifs with hk hl
  · exact .inl ⟨hk, hl, rfl⟩
  · exact .inr (.inl ⟨hk, Nat.not_lt.1 hl, rfl⟩)
  · exact .inr (.inr ⟨hk, rfl⟩)

/-- Settles O8: a good reply (`goodReply_terminal`, `raised_goodReply`) and then the offer for relay. -/
theorem pollReplyIsAGoodReply : Obligations.PollReplyIsAGoodReply := by
  intro s r x f h hkind v relayed
  let good : State := s.endExchange.goodReply x
  have hexec : exec (.pollReply r) s = .next
      (if x.stale || decide (f.kind = 2) then good else good.offerToNetwork f.kind r.bytes) := by
    change execPollReply r s = _
    unfold execPollReply
    simp only [h.replyFrame]
    exact congrArg _ (if_neg hkind)
  refine ⟨fun hstale => ?_, fun hstale => ?_⟩
  · rw [hexec, hstale]
    exact congrArg _ (goodReply_stale hstale)
  · rw [hstale, Bool.false_or] at hexec
    have hframe : good = { s with
        exchange := none, tReceiver := .idle, terminals := good.terminals, events := good.events
        notices := good.notices } := s.endExchange.goodReply_frame x
    have hterminal : ∀ u, good.terminal u = _ := goodReply_terminal (s := s.endExchange) hstale
    have hraised : Raised s good (onlyIf (v.absent = true) .terminalPresent) :=
      (raised_goodReply (s := s.endExchange) hstale).of_start (fun _ => rfl) rfl rfl
    have hnetwork : good.toNetwork = s.toNetwork := by rw [hframe]
    have htables : good.tables = s.tables := by rw [hframe]
    have hcases : (¬ relayed ∧ exec (.pollReply r) s = .next good) ∨
        (relayed ∧ s.toNetwork.length < 16 ∧ exec (.pollReply r) s =
          .next { good with toNetwork := good.toNetwork ++ [r.bytes] }) ∨
        (relayed ∧ 16 ≤ s.toNetwork.length ∧
          exec (.pollReply r) s = .next (good.raise .relayLost)) := by
      by_cases hnil : f.kind = 2
      · rw [if_pos (decide_eq_true hnil)] at hexec
        exact .inl ⟨fun hr => hr.1 hnil, hexec⟩
      · rw [if_neg (by simpa using hnil)] at hexec
        rcases offerToNetwork_cases good f.kind r.bytes with ⟨hk, hl, e⟩ | ⟨hk, hl, e⟩ | ⟨hk, e⟩ <;>
          rw [State.settings, htables] at hk
        · exact .inr (.inl ⟨⟨hnil, hk⟩, hnetwork ▸ hl, e ▸ hexec⟩)
        · exact .inr (.inr ⟨⟨hnil, hk⟩, hnetwork ▸ hl, e ▸ hexec⟩)
        · exact .inl ⟨fun hr => hk hr.2, e ▸ hexec⟩
    rcases hcases with ⟨hr, e⟩ | ⟨hr, hl, e⟩ | ⟨hr, hl, e⟩
    · refine ⟨_, e, ?_, hterminal, fun h => absurd h hr, fun _ => hnetwork, ?_⟩
      · rw [hnetwork]
        exact hframe
      · rw [onlyIf_false (p := relayed ∧ _) fun h => hr h.1, List.append_nil]
        exact hraised
    · refine ⟨_, e, ?_, hterminal, fun _ _ => by rw [hnetwork], fun h => absurd ⟨hr, hl⟩ h, ?_⟩
      · rw [hframe]
      · rw [onlyIf_false (p := relayed ∧ _) fun h => Nat.not_lt.2 h.2 hl, List.append_nil]
        exact hraised.of_end rfl rfl
    · refine ⟨_, e, ?_, hterminal, fun _ h => absurd hl (Nat.not_le.2 h), fun _ => hnetwork, ?_⟩
      · rw [hframe]
        rfl
      · rw [onlyIf_true (p := relayed ∧ _) ⟨hr, hl⟩]
        exact hraised.append (by rw [hframe]) (Raised.refl _).raise

theorem pendingTrip_isSome_iff (v : TerminalService) :
    v.pendingTrip.isSome = true ↔ ∃ n, v = .awaiting n := by
  cases v <;> simp [TerminalService.pendingTrip]

theorem inFlight_iff (s : State) (u : Nat) : s.inFlight u = true ↔
    (∃ n, (s.terminal u).service = .awaiting n) ∨ ∃ a ∈ s.answers, a.terminal = u := by
  rw [State.inFlight, Bool.or_eq_true, State.answerWaiting, List.any_eq_true,
    pendingTrip_isSome_iff]
  simp

/-- Settles O9: a good reply, and then the presentation where the exchange is not stale. -/
theorem presentReplyIsDiscardedOrDecided : Obligations.PresentReplyIsDiscardedOrDecided := by
  intro s r x f h hkind v waits
  let good : State := s.endExchange.goodReply x
  have hexec : exec (.presentReply r) s = .next
      (if x.stale || decide (f.payload.length ≠ 10) then good
        else good.takePresent x.station f.payload) := by
    change execPresentReply r s = _
    unfold execPresentReply
    simp only [h.replyFrame]
    exact congrArg _ (if_neg (not_not.2 hkind))
  refine ⟨fun hstale => ?_, fun hstale => ?_⟩
  · rw [hexec, hstale]
    exact congrArg _ (goodReply_stale hstale)
  · rw [hstale, Bool.false_or] at hexec
    have hframe : good = { s with
        exchange := none, tReceiver := .idle, terminals := good.terminals, events := good.events
        notices := good.notices } := s.endExchange.goodReply_frame x
    have hterminal : ∀ u, good.terminal u = _ := goodReply_terminal (s := s.endExchange) hstale
    have hstation : good.terminal x.station = { v with misses := 0, absent := false } :=
      (hterminal x.station).trans (if_pos rfl)
    have hwaits : good.inFlight x.station = true ↔ waits := by
      rw [inFlight_iff, hstation, show good.answers = s.answers by rw [hframe]]
    refine ⟨good, hframe, hterminal,
      (raised_goodReply (s := s.endExchange) hstale).of_start (fun _ => rfl) rfl rfl,
      fun hl => ?_, fun hl hw => ?_, fun hl hw => ?_⟩
    · rw [hexec, if_pos (decide_eq_true hl)]
    · rw [hexec, if_neg (by simp [hl]), State.takePresent, if_pos (hwaits.2 hw), hstation]
    · rw [hexec, if_neg (by simp [hl]), State.takePresent, if_neg (mt hwaits.1 hw)]
      rfl

/-! ## The transmitter (R66, R67) -/

theorem reachable_iff (s : State) (u : Nat) : s.reachable u = true ↔
    (s.terminalConfig u).configured = true ∧ (s.terminal u).absent = false := by
  simp [State.reachable]

theorem TFree.tFree (h : TFree s) : s.tFree = true := by
  rw [State.tFree, h.1.operating, h.2]
  rfl

/-- Settles O10. -/
theorem tPortSendsTheHead : Obligations.TPortSendsTheHead := by
  intro s hfree
  refine ⟨fun a rest ha => ?_, fun frame rest ha hr => ?_⟩
  · intro v base
    change execSendAnswer s = _
    unfold execSendAnswer
    rw [ha]
    refine congrArg _ ((if_pos hfree.tFree).trans (if_congr (reachable_iff s _) ?_ rfl))
    rw [answerPayload_eq]
    rfl
  · change execSendGToTRelay s = _
    unfold execSendGToTRelay
    rw [hr]
    refine congrArg _ ((if_pos ?_).trans (if_congr (reachable_iff s _) rfl rfl))
    rw [hfree.tFree, ha]
    rfl

/-! ## The timers (R75, R77, R114, R116) -/

theorem expireTrip_due {m d : Nat} {y : Trip} {st : TripState} (hw : Working s)
    (hy : s.tripOf m = some y) (hd : y.expiry = some d) (hst : y.state = st) :
    s.expireTrip m st = (s.reach d).removeTrip m := by
  simp [State.expireTrip, hy, hd, hst, hw.operating]

/-- Settles O29. -/
theorem timersExpire : Obligations.TimersExpire := by
  intro s d hw later
  refine ⟨fun u hu => ?_, fun u hu => ?_, fun y hy hd => ⟨fun hst => ?_, fun hst => ?_⟩⟩
  · change execDecayExpiry u s = _
    unfold execDecayExpiry
    rw [hu]
    exact congrArg _ (if_pos hw.operating)
  · change execHoldExpiry u s = _
    unfold execHoldExpiry
    rw [hu]
    exact congrArg _ (if_pos hw.operating)
  · exact congrArg _ (expireTrip_due hw hy hd hst)
  · exact congrArg _ (expireTrip_due hw hy hd hst)

end

end Sys2Proof.Safety
end

section
/-! SUPPORT. WRITE and ERASE of the Terminal Table, the Format Table and the Facility Ranges, and the proofs of O47 and O48 (R60, R61, R68, R71). -/

namespace Sys2Proof.Safety

open Sys2Proof.Machine

/-! ## The Terminal Table (R60, R61) -/

section
variable {s : State} {u w : Nat} {c : TerminalConfig}

theorem setTerminalConfig_terminalConfig (s : State) (u w : Nat) (c : TerminalConfig) :
    (s.setTerminalConfig u c).terminalConfig w = if w = u then c else s.terminalConfig w :=
  (Store.get_set ({} : TerminalConfig) s.tables.terminals u w c).trans (if_congr eq_comm rfl rfl)

theorem configureTerminal_configured (h : (s.terminalConfig u).configured = true) :
    s.configureTerminal u c = s.setTerminalConfig u c :=
  if_pos h

theorem configureTerminal_unconfigured (h : (s.terminalConfig u).configured = false) :
    s.configureTerminal u c = (s.setTerminalConfig u c).setTerminal u {} :=
  if_neg (Bool.eq_false_iff.1 h)

theorem configureTerminal_terminalConfig : (s.configureTerminal u c).terminalConfig w =
    if w = u then c else s.terminalConfig w := by
  cases h : (s.terminalConfig u).configured with
  | true => rw [configureTerminal_configured h, setTerminalConfig_terminalConfig]
  | false =>
    rw [configureTerminal_unconfigured h]
    exact setTerminalConfig_terminalConfig s u w c

/-- A record that was unconfigured takes the dynamic values of R59. -/
theorem configureTerminal_terminal : (s.configureTerminal u c).terminal w =
    if w = u ∧ (s.terminalConfig u).configured = false then {} else s.terminal w := by
  cases h : (s.terminalConfig u).configured with
  | true =>
    rw [configureTerminal_configured h, if_neg fun hw => Bool.noConfusion hw.2]
    rfl
  | false =>
    rw [configureTerminal_unconfigured h, setTerminal_terminal]
    exact if_congr ⟨fun hw => ⟨hw, rfl⟩, And.left⟩ rfl rfl

theorem configureTerminal_frame (s : State) (u : Nat) (c : TerminalConfig) :
    s.configureTerminal u c = { s with
      tables := { s.tables with terminals := (s.configureTerminal u c).tables.terminals }
      terminals := (s.configureTerminal u c).terminals } := by
  unfold State.configureTerminal
  split_ifs <;> rfl

theorem eraseTerminal_configured (h : (s.terminalConfig u).configured = true) :
    s.eraseTerminal u = { (s.setTerminalConfig u {}).setTerminal u {} with
      exchange := s.exchange.map (fun x => x.lost u) } :=
  if_pos h

theorem eraseTerminal_unconfigured (h : (s.terminalConfig u).configured = false) :
    s.eraseTerminal u = s :=
  if_neg (Bool.eq_false_iff.1 h)

theorem stationOk_iff (u : Nat) : stationOk u = true ↔ 1 ≤ u ∧ u ≤ 64 := by
  simp [stationOk]

theorem not_stationOk {u : Nat} (h : u = 0 ∨ 64 < u) : ¬ stationOk u = true := by
  rw [stationOk_iff]
  omega

theorem terminalBytes_terminalAt (p : List Byte) : terminalBytes (terminalAt p) =
    [byteOf (numAt p 10 1), byteOf (numAt p 11 1), byteOf (numAt p 12 1)] := by
  have hcode : ∀ code, (bindingOf code).code = code := by
    intro code
    unfold bindingOf
    split_ifs with h0
    · exact h0.symm
    · rfl
  exact congrArg (fun n => [byteOf (numAt p 10 1), byteOf (numAt p 11 1), byteOf n]) (hcode _)

end

theorem exec_writeTerminal (s : State) :
    exec .writeTerminal s = .next (s.serve (isTableOp 3 8) handleWriteTerminal) := rfl

theorem exec_eraseTerminal (s : State) :
    exec .eraseTerminal s = .next (s.serve (isTableOp 4 8) handleEraseTerminal) := rfl

/-- Settles O47: the checks pass or refuse, and what the two operations write is read back. -/
theorem terminalsAreWrittenAndErased : Obligations.TerminalsAreWrittenAndErased := by
  intro s p rest i byte refused
  let taken : State := { s with requests := rest }
  have hpass : 1 ≤ i → i ≤ 64 → ∀ k, taken.checkIndex (stationOk i) k = k := fun h1 h64 k =>
    State.checkIndex_pass _ _ _ ((stationOk_iff i).2 ⟨h1, h64⟩)
  refine ⟨fun h => ?_, fun h => ?_⟩
  · refine ⟨fun hi => ?_, fun h1 h64 hbad => ?_, fun h1 h64 horigin hformat hbinding => ?_⟩
    · exact h.refused (exec_writeTerminal s) rfl (checkIndex_refuse _ (not_stationOk hi) _)
    · refine h.refused (exec_writeTerminal s) rfl ((hpass h1 h64 _).trans
        (checkField_refuse _ (fun hok => ?_) _))
      simp only [Bool.and_eq_true, decide_eq_true_eq] at hok
      obtain ⟨⟨horigin, hformat⟩, hbinding⟩ := hok
      rcases hbad with hbad | hbad | hbad
      · exact hbad.not_ge horigin
      · exact hbad.not_ge hformat
      · exact hbad.not_ge hbinding
    · refine ⟨_, h.done (exec_writeTerminal s) rfl ((hpass h1 h64 _).trans
          (State.checkField_pass _ _ _ ?_)),
        fun u => configureTerminal_terminalConfig (s := taken),
        fun u => configureTerminal_terminal (s := taken), ?_⟩
      · simp only [Bool.and_eq_true, decide_eq_true_eq]
        exact ⟨⟨horigin, hformat⟩, hbinding⟩
      · rw [terminalBytes_terminalAt, configureTerminal_frame]
        rfl
  · have hawaits := pendingTrip_isSome_iff (taken.terminal i).service
    refine ⟨fun hi => ?_, fun h1 h64 hn => ?_, fun h1 h64 hn => ⟨fun hconf => ?_, fun hconf => ?_⟩⟩
    · exact h.refused (exec_eraseTerminal s) rfl (checkIndex_refuse _ (not_stationOk hi) _)
    · exact h.refused (exec_eraseTerminal s) rfl ((hpass h1 h64 _).trans (if_pos (hawaits.2 hn)))
    · exact h.done (exec_eraseTerminal s) rfl ((hpass h1 h64 _).trans
        ((if_neg (mt hawaits.1 (not_exists.2 hn))).trans
          (congrArg State.accept (eraseTerminal_unconfigured (s := taken) hconf))))
    · exact ⟨_, h.done (exec_eraseTerminal s) rfl ((hpass h1 h64 _).trans
          ((if_neg (mt hawaits.1 (not_exists.2 hn))).trans
            (congrArg State.accept (eraseTerminal_configured (s := taken) hconf)))),
        fun u => setTerminalConfig_terminalConfig taken i u {},
        fun u => setTerminal_terminal (taken.setTerminalConfig i {}) i u {}, rfl⟩

/-! ## The Format Table (R68) -/

/-- A field of a SPLIT format keeps clear of the first and the last bit. -/
def KeepsClear (n start length : Nat) : Prop :=
  length = 0 ∨ (1 ≤ start ∧ start + length ≤ n - 1)

theorem clearOfParity_iff (n start length : Nat) :
    clearOfParity n start length = true ↔ KeepsClear n start length := by
  simp [clearOfParity, KeepsClear]

theorem format_good_iff (f : Format) : f.good = true ↔
    26 ≤ f.length ∧ f.length ≤ 64 ∧ f.facilityLength ≤ 16 ∧ 1 ≤ f.cardLength ∧ f.cardLength ≤ 32 ∧
      f.facilityStart ≤ 63 ∧ f.cardStart ≤ 63 ∧ f.facilityStart + f.facilityLength ≤ f.length ∧
      f.cardStart + f.cardLength ≤ f.length ∧
      (f.split = true → KeepsClear f.length f.facilityStart f.facilityLength ∧
        KeepsClear f.length f.cardStart f.cardLength) := by
  simp only [Format.good, Bool.and_eq_true, Bool.or_eq_true, Bool.not_eq_true', decide_eq_true_eq,
    clearOfParity_iff, and_assoc, ← Bool.not_eq_true, ← imp_iff_not_or]

theorem formatAt_good (p : List Byte) :
    (decide (numAt p 15 1 ≤ 1) && (formatAt p).good) = true ↔
      26 ≤ numAt p 10 1 ∧ numAt p 10 1 ≤ 64 ∧ numAt p 12 1 ≤ 16 ∧ 1 ≤ numAt p 14 1 ∧
        numAt p 14 1 ≤ 32 ∧ numAt p 15 1 ≤ 1 ∧ numAt p 11 1 ≤ 63 ∧ numAt p 13 1 ≤ 63 ∧
        numAt p 11 1 + numAt p 12 1 ≤ numAt p 10 1 ∧ numAt p 13 1 + numAt p 14 1 ≤ numAt p 10 1 ∧
        (numAt p 15 1 = 1 → KeepsClear (numAt p 10 1) (numAt p 11 1) (numAt p 12 1) ∧
          KeepsClear (numAt p 10 1) (numAt p 13 1) (numAt p 14 1)) := by
  have hsplit : (formatAt p).split = true ↔ numAt p 15 1 = 1 := decide_eq_true_iff
  rw [Bool.and_eq_true, decide_eq_true_iff, format_good_iff, hsplit]
  constructor
  · rintro ⟨hcode, h26, h64, hfl, h1, hcl, hrest⟩
    exact ⟨h26, h64, hfl, h1, hcl, hcode, hrest⟩
  · rintro ⟨h26, h64, hfl, h1, hcl, hcode, hrest⟩
    exact ⟨hcode, h26, h64, hfl, h1, hcl, hrest⟩

theorem formatBytes_formatAt {p : List Byte} (h : numAt p 15 1 ≤ 1) :
    formatBytes (formatAt p) = [byteOf (numAt p 10 1), byteOf (numAt p 11 1), byteOf (numAt p 12 1),
      byteOf (numAt p 13 1), byteOf (numAt p 14 1), byteOf (numAt p 15 1)] := by
  rw [← boolByte_eq_byteOf h]
  rfl

theorem exec_writeFormat (s : State) :
    exec .writeFormat s = .next (s.serve (isTableOp 3 9) handleWriteFormat) := rfl

theorem exec_eraseFormat (s : State) :
    exec .eraseFormat s = .next (s.serve (isTableOp 4 9) handleEraseFormat) := rfl

theorem exec_writeFacilityRange (s : State) :
    exec .writeFacilityRange s = .next (s.serve (isTableOp 3 10) handleWriteFacilityRange) := rfl

theorem exec_eraseFacilityRange (s : State) :
    exec .eraseFacilityRange s = .next (s.serve (isTableOp 4 10) handleEraseFacilityRange) := rfl

/-- Settles O48: the checks of each table pass or refuse, and the record at the index is the one written. -/
theorem formatsAndRangesAreWritten : Obligations.FormatsAndRangesAreWritten := by
  intro s p rest i byte refused
  refine ⟨fun h => ?_, fun h => ?_, fun h => ?_, fun h => ?_⟩
  · intro n clear good
    refine ⟨fun hi => ?_, fun hi hbad => ?_, fun hi hgood => ?_⟩
    · exact h.refused (exec_writeFormat s) rfl (checkIndex_le_refuse _ _ hi)
    · exact h.refused (exec_writeFormat s) rfl ((checkIndex_le_pass _ _ hi).trans
        (checkField_refuse _ (mt (formatAt_good p).1 hbad) _))
    · refine ⟨_, h.done (exec_writeFormat s) rfl ((checkIndex_le_pass _ _ hi).trans
          (State.checkField_pass _ _ _ ((formatAt_good p).2 hgood))),
        get_of_set (d := ({} : Format)) (v := formatAt p) rfl, ?_⟩
      rw [formatBytes_formatAt hgood.2.2.2.2.2.1]
      rfl
  · refine ⟨fun hi => ?_, fun hi => ?_⟩
    · exact h.refused (exec_eraseFormat s) rfl (checkIndex_le_refuse _ _ hi)
    · exact ⟨_, h.done (exec_eraseFormat s) rfl (checkIndex_le_pass _ _ hi),
        get_of_set (d := ({} : Format)) (v := {}) rfl, rfl⟩
  · intro count
    refine ⟨fun hi => ?_, fun hi hbad => ?_, fun hi h1 hmax => ?_⟩
    · exact h.refused (exec_writeFacilityRange s) rfl (checkIndex_le_refuse _ _ hi)
    · refine h.refused (exec_writeFacilityRange s) rfl ((checkIndex_le_pass _ _ hi).trans
        (checkField_refuse _ (fun hok => ?_) _))
      simp only [Bool.and_eq_true, decide_eq_true_eq] at hok
      omega
    · exact ⟨_, h.done (exec_writeFacilityRange s) rfl ((checkIndex_le_pass _ _ hi).trans
          (State.checkField_pass _ _ _
            (Bool.and_eq_true_iff.2 ⟨decide_eq_true h1, decide_eq_true hmax⟩))),
        get_of_set (d := none) (v := some (facilityAt p)) rfl, rfl⟩
  · refine ⟨fun hi => ?_, fun hi => ?_⟩
    · exact h.refused (exec_eraseFacilityRange s) rfl (checkIndex_le_refuse _ _ hi)
    · exact ⟨_, h.done (exec_eraseFacilityRange s) rfl (checkIndex_le_pass _ _ hi),
        get_of_set (d := none) (v := none) rfl, rfl⟩

end Sys2Proof.Safety
end

section
/-! SUPPORT. The Denial Monitor's count of a denial, and the proof of O21 (R57, R74 to R77, R104, R106, R185). -/

namespace Sys2Proof.Safety

open Sys2Proof.Machine

section
variable {s : State} {u w : Nat} {r : Reason} {d : Option Nat}

/-! ## The effective threshold (R57, R76) -/

theorem night_iff (s : State) : s.night = true ↔
    s.clock.isSet = true ∧ s.settings.nightLength ≠ 0 ∧
      ((s.settings.nightStart ≤ s.clock.minute ∧
          s.clock.minute < s.settings.nightStart + s.settings.nightLength) ∨
        (1440 < s.settings.nightStart + s.settings.nightLength ∧
          s.clock.minute < s.settings.nightStart + s.settings.nightLength - 1440)) := by
  simp only [State.night, Bool.and_eq_true, Bool.or_eq_true, decide_eq_true_eq, and_assoc]

/-- The eleven reasons of a counted denial (R74). -/
theorem counted_iff (r : Reason) : r.counted = true ↔
    r ∈ [Reason.foreignFacility, .unknownBadge, .suspended, .lost, .tenantSuspended, .notYetValid,
      .expired, .noTripsLeft, .serviceOnly, .zoneLocked, .notPermitted] := by
  cases r <;> decide

/-! ## A counted denial (R74 to R77) -/

theorem countDenial_counts (h : s.bringsHold u = false) :
    s.countDenial u = s.setTerminal u { s.terminal u with
      tally := min 15 ((s.terminal u).tally + 1)
      decay := some (s.now + decayTime s.settings.decayCode) } := by
  unfold State.countDenial
  rw [h]
  rfl

theorem countDenial_holds (h : s.bringsHold u = true)
    (hl : (s.terminal u).holds + 1 < s.settings.latchLimit) :
    s.countDenial u = (s.setTerminal u { s.terminal u with
      tally := 0, decay := none, holds := (s.terminal u).holds + 1
      service := .held (s.now + holdTime s.settings) }).raise .terminalHeld := by
  unfold State.countDenial
  rw [h]
  exact if_neg (Nat.not_le.2 hl)

theorem countDenial_latches (h : s.bringsHold u = true)
    (hl : s.settings.latchLimit ≤ (s.terminal u).holds + 1) :
    s.countDenial u = (s.setTerminal u { s.terminal u with
      tally := 0, decay := none, holds := (s.terminal u).holds + 1
      service := .latched }).raise .terminalLatched := by
  unfold State.countDenial
  rw [h]
  exact if_pos hl

theorem countDenial_terminal_other (h : w ≠ u) : (s.countDenial u).terminal w = s.terminal w := by
  unfold State.countDenial
  dsimp only
  split_ifs
  · exact State.setTerminal_terminal_other s _ h.symm
  · exact State.setTerminal_terminal_other s _ h.symm
  · exact State.setTerminal_terminal_other s _ h.symm

theorem raised_of_setTerminal (s : State) (u : Nat) (v : TerminalState) (k : EventKind) :
    Raised s ((s.setTerminal u v).raise k) [k] :=
  ((Raised.refl _).raise (s := s.setTerminal u v)).of_start (fun _ => rfl) rfl rfl

theorem raised_countDenial (s : State) (u : Nat) : Raised s (s.countDenial u)
    (onlyIf (s.bringsHold u = true ∧ (s.terminal u).holds + 1 < s.settings.latchLimit)
        .terminalHeld ++
      onlyIf (s.bringsHold u = true ∧ s.settings.latchLimit ≤ (s.terminal u).holds + 1)
        .terminalLatched) := by
  by_cases h : s.bringsHold u = true
  · by_cases hl : (s.terminal u).holds + 1 < s.settings.latchLimit
    · rw [onlyIf_true ⟨h, hl⟩, onlyIf_false fun g => Nat.not_le.2 hl g.2, countDenial_holds h hl]
      exact raised_of_setTerminal s u _ _
    · rw [onlyIf_false fun g => hl g.2, onlyIf_true ⟨h, Nat.not_lt.1 hl⟩,
        countDenial_latches h (Nat.not_lt.1 hl)]
      exact raised_of_setTerminal s u _ _
  · rw [onlyIf_false fun g => h g.1, onlyIf_false fun g => h g.1,
      countDenial_counts (Bool.eq_false_iff.2 h)]
    exact ⟨fun _ => rfl, rfl⟩

/-! ## A DENY (R34, R104) -/

theorem deny_counted (h : r.counted = true) : s.deny u r d = { s.countDenial u with
    answers := s.answers ++ [⟨u, .denied, some r, d, none, none, s.bringsHold u⟩] } := by
  unfold State.deny
  rw [if_pos h, State.placeAnswer_other _ _ (by simp), State.countDenial_frame]

theorem deny_uncounted (h : r.counted = false) : s.deny u r d = { s with
    answers := s.answers ++ [⟨u, .denied, some r, d, none, none, false⟩] } := by
  unfold State.deny
  rw [if_neg (Bool.eq_false_iff.1 h), State.placeAnswer_other _ _ (by simp)]

/-- What a DENY raises: the hold's event, if any. -/
theorem raised_deny (s : State) (u : Nat) (r : Reason) (d : Option Nat) : Raised s (s.deny u r d)
    (onlyIf (r.counted = true ∧ s.bringsHold u = true ∧
        (s.terminal u).holds + 1 < s.settings.latchLimit) .terminalHeld ++
      onlyIf (r.counted = true ∧ s.bringsHold u = true ∧
        s.settings.latchLimit ≤ (s.terminal u).holds + 1) .terminalLatched) := by
  cases h : r.counted with
  | true =>
    simp only [true_and, deny_counted h]
    exact (raised_countDenial s u).of_end rfl rfl
  | false =>
    simp only [Bool.false_eq_true, false_and, deny_uncounted h]
    exact ⟨fun _ => rfl, rfl⟩

theorem deny_answers (s : State) (u : Nat) (r : Reason) (d : Option Nat) :
    (s.deny u r d).answers = s.answers ++
      [⟨u, .denied, some r, d, none, none, r.counted && s.bringsHold u⟩] := by
  cases h : r.counted with
  | true => rw [deny_counted h, Bool.true_and]
  | false => rw [deny_uncounted h, Bool.false_and]

theorem deny_terminal_other (h : w ≠ u) : (s.deny u r d).terminal w = s.terminal w := by
  cases hr : r.counted with
  | true =>
    rw [deny_counted hr]
    exact countDenial_terminal_other h
  | false =>
    rw [deny_uncounted hr]
    rfl

theorem deny_terminal_uncounted (h : r.counted = false) :
    (s.deny u r d).terminal w = s.terminal w := by
  rw [deny_uncounted h]
  rfl

theorem deny_terminal_counts (h : r.counted = true) (hb : s.bringsHold u = false) :
    (s.deny u r d).terminal u = { s.terminal u with
      tally := min 15 ((s.terminal u).tally + 1)
      decay := some (s.now + decayTime s.settings.decayCode) } := by
  rw [deny_counted h, countDenial_counts hb]
  exact State.setTerminal_terminal_same s u _

theorem deny_terminal_holds (h : r.counted = true) (hb : s.bringsHold u = true)
    (hl : (s.terminal u).holds + 1 < s.settings.latchLimit) :
    (s.deny u r d).terminal u = { s.terminal u with
      tally := 0, decay := none, holds := (s.terminal u).holds + 1
      service := .held (s.now + holdTime s.settings) } := by
  rw [deny_counted h, countDenial_holds hb hl]
  exact State.setTerminal_terminal_same s u _

theorem deny_terminal_latches (h : r.counted = true) (hb : s.bringsHold u = true)
    (hl : s.settings.latchLimit ≤ (s.terminal u).holds + 1) :
    (s.deny u r d).terminal u = { s.terminal u with
      tally := 0, decay := none, holds := (s.terminal u).holds + 1, service := .latched } := by
  rw [deny_counted h, countDenial_latches hb hl]
  exact State.setTerminal_terminal_same s u _

theorem raised_lostSeen (s : State) (r : Reason) :
    Raised s (if r = .lost then s.raise .lostBadgeSeen else s) (onlyIf (r = .lost) .lostBadgeSeen) := by
  split_ifs with h
  · rw [onlyIf_true h]
    exact (Raised.refl _).raise
  · rw [onlyIf_false h]
    exact Raised.refl s

/-- The Report FIFO after a report: placed, dropped or switched off (R185). -/
theorem queueReport_reports (s : State) (e : Report) : (s.queueReport e).reports = reported s e := by
  unfold reported
  rcases s.queueReport_cases e with ⟨h, e'⟩ | ⟨h, hl, e'⟩ | ⟨h, hl, e'⟩ <;> rw [e']
  · exact (if_neg fun g => Bool.false_ne_true (h.symm.trans g.1)).symm
  · exact (if_pos ⟨h, hl⟩).symm
  · exact (if_neg fun g => Nat.not_le.2 g.2 hl).symm

theorem onlyIf_congr {a b : Prop} [Decidable a] [Decidable b] (h : a ↔ b) (k : EventKind) :
    onlyIf a k = onlyIf b k :=
  if_congr h rfl rfl

end

/-- Settles O21: LOST_BADGE_SEEN, the DENY and the report, one after another. -/
theorem countedDenialsHoldTheTerminal : Obligations.CountedDenialsHoldTheTerminal := by
  intro s p r hr counted c v tally m threshold
  have hcounted : r.counted = true ↔ counted := counted_iff r
  have hthreshold : s.effectiveThreshold = threshold :=
    if_congr (night_iff s) rfl rfl
  have hbrings : s.bringsHold p.terminal = true ↔ threshold ≤ tally := by
    rw [State.bringsHold, decide_eq_true_iff, hthreshold]
    rfl
  obtain ⟨seen, hseen⟩ : ∃ seen, seen = if r = .lost then s.raise .lostBadgeSeen else s := ⟨_, rfl⟩
  have hlost : Raised s seen (onlyIf (r = .lost) .lostBadgeSeen) := hseen ▸ raised_lostSeen s r
  obtain ⟨events, notices, hstate⟩ : ∃ events notices,
      seen = { s with events := events, notices := notices } := by
    rw [hseen]
    split_ifs
    · exact ⟨_, _, rfl⟩
    · exact ⟨_, _, rfl⟩
  let denied : State := seen.deny p.terminal r (s.decision p).destination
  have hadmission : s.admission p = denied.queueReport ⟨s.moment, s.clock.isSet, p.terminal,
      (s.decision p).key, p.request, (s.decision p).destination, .denied, some r, none⟩ := by
    unfold State.admission State.applyEnding State.reportOf
    simp only [hr, ← hseen]
    rfl
  subst hstate
  have hheld : (r.counted && s.bringsHold p.terminal) = decide (counted ∧ threshold ≤ tally) :=
    Bool.eq_iff_iff.2 ((Bool.and_eq_true_iff.trans (and_congr hcounted hbrings)).trans
      decide_eq_true_iff.symm)
  have hframe : denied = { s with
      answers := s.answers ++ [⟨p.terminal, .denied, some r, (s.decision p).destination, none, none,
        decide (counted ∧ threshold ≤ tally)⟩]
      terminals := denied.terminals, events := denied.events, notices := denied.notices } := by
    rw [← hheld]
    refine (State.deny_frame _ _ _ _).trans ?_
    rw [deny_answers]
    rfl
  have hterminal : ∀ e w, (denied.queueReport e).terminal w = denied.terminal w := by
    intro e w
    rw [State.queueReport_frame]
    rfl
  have hnot : tally < threshold → s.bringsHold p.terminal = false := fun h =>
    Bool.eq_false_iff.2 (mt hbrings.1 (Nat.not_le.2 h))
  have htables : denied.tables = s.tables := by rw [hframe]
  have hreports : denied.reports = s.reports := by rw [hframe]
  refine ⟨_, hadmission, ?_, fun w hw => ?_, fun h => ?_, fun h ht => ?_, fun h ht hl => ?_,
    fun h ht hl => ?_, ?_⟩
  · rw [State.queueReport_frame, queueReport_reports, reported, htables, hreports, ← reported]
    rw [hframe]
  · rw [hterminal]
    exact deny_terminal_other hw
  · rw [hterminal]
    exact deny_terminal_uncounted (Bool.eq_false_iff.2 (mt hcounted.1 h))
  · rw [hterminal]
    exact deny_terminal_counts (hcounted.2 h) (hnot ht)
  · rw [hterminal]
    exact deny_terminal_holds (hcounted.2 h) (hbrings.2 ht) hl
  · rw [hterminal]
    exact deny_terminal_latches (hcounted.2 h) (hbrings.2 ht) hl
  · have hoverflow : overflow denied = overflow s := by
      unfold overflow
      rw [htables, hreports]
    rw [List.append_assoc _ _ (overflow s), List.append_assoc, ← List.append_assoc _ _ (overflow s)]
    refine hlost.append rfl (Raised.append ?_ (by rw [htables])
      (hoverflow ▸ raised_queueReport _ _))
    rw [onlyIf_congr (and_congr hcounted.symm (and_congr_left' hbrings.symm)),
      onlyIf_congr (and_congr hcounted.symm (and_congr_left' hbrings.symm)) .terminalLatched]
    exact raised_deny _ _ _ _

end Sys2Proof.Safety
end

section
/-! SUPPORT. Stages 1 to 4 of the decision: the reader word, the facility, and whether the badge may be used; the proof of O13 (R33, R69 to R71, R86 to R92). -/

namespace Sys2Proof.Safety

open Sys2Proof.Machine

/-! ## The reader word (R69, R70) -/

theorem onesFrom_zero (bits : ReaderBits) (n : Nat) :
    onesFrom bits 0 n = onesWhere bits n (fun _ => true) := by
  simp [onesFrom, onesWhere, List.countP_eq_length_filter]

/-- The ones behind bit `h`. -/
theorem onesFrom_after (bits : ReaderBits) (h n : Nat) :
    onesFrom bits (h + 1) (n - (h + 1)) = onesWhere bits n (fun i => decide (h < i)) := by
  have hbelow : ∀ m ≤ h + 1,
      (List.range m).countP (fun i => decide (h < i) && bits.getMsbD i) = 0 := by
    intro m hm
    refine List.countP_eq_zero.2 fun i hi => ?_
    rw [decide_eq_false (Nat.not_lt.2 (by have := List.mem_range.1 hi; omega))]
    exact Bool.false_ne_true
  rcases Nat.le_total n (h + 1) with hn | hn
  · rw [Nat.sub_eq_zero_of_le hn, onesWhere, hbelow n hn]
    rfl
  · obtain ⟨m, rfl⟩ := Nat.exists_eq_add_of_le hn
    rw [Nat.add_sub_cancel_left, onesWhere, List.range_add, List.countP_append, hbelow _ le_rfl,
      Nat.zero_add, List.countP_map, onesFrom, List.countP_eq_length_filter]
    refine congrArg List.length (List.filter_congr fun j _ => ?_)
    rw [Function.comp_apply, decide_eq_true (by omega : h < h + 1 + j), Bool.true_and]

theorem fieldOf_succ (bits : ReaderBits) (start n : Nat) :
    fieldOf bits start (n + 1) = 2 * fieldOf bits start n + (bits.getMsbD (start + n)).toNat := by
  have hdouble : ∀ j ∈ List.range n,
      (if bits.getMsbD (start + j) then 2 ^ (n + 1 - 1 - j) else 0) =
        2 * (if bits.getMsbD (start + j) then 2 ^ (n - 1 - j) else 0) := by
    intro j hj
    have hjn := List.mem_range.1 hj
    rw [show n + 1 - 1 - j = n - 1 - j + 1 by omega, Nat.pow_succ, Nat.mul_comm, mul_ite,
      Nat.mul_zero]
  unfold fieldOf
  rw [List.range_succ, List.map_append, List.sum_append, List.map_congr_left hdouble,
    List.sum_map_mul_left]
  cases hbit : bits.getMsbD (start + n) <;> simp [hbit]

theorem bitField_eq (bits : ReaderBits) (start n : Nat) :
    bitField bits start n = fieldOf bits start n := by
  induction n with
  | zero => rfl
  | succ n ih =>
    rw [fieldOf_succ, ← ih]
    simp [bitField, List.range_succ]

theorem splitParity_iff (bits : ReaderBits) (n : Nat) : splitParity bits n = true ↔
    onesWhere bits ((n - 2) / 2 + 1) (fun _ => true) % 2 = 0 ∧
      onesWhere bits n (fun i => decide ((n - 2) / 2 < i)) % 2 = 1 := by
  rw [← onesFrom_zero, ← onesFrom_after]
  simp [splitParity]

theorem decodeReader_none {f : Format} {n : Nat} {bits : ReaderBits} (h : Unreadable f n bits) :
    decodeReader f n bits = none := by
  unfold decodeReader
  rcases h with hn | ⟨hsplit, hparity⟩
  · exact if_pos hn
  · have hbad : splitParity bits n = false := by
      rw [Bool.eq_false_iff, Ne, splitParity_iff]
      exact fun h => hparity.elim (absurd h.1) (absurd h.2)
    rw [hsplit, hbad]
    exact ite_self none

theorem decodeReader_some {f : Format} {n : Nat} {bits : ReaderBits} (h : ¬ Unreadable f n bits) :
    decodeReader f n bits = some ⟨fieldOf bits f.facilityStart f.facilityLength,
      fieldOf bits f.cardStart f.cardLength⟩ := by
  obtain ⟨hn, hparity⟩ := not_or.1 h
  have hgood : ¬ (f.split && !splitParity bits n) = true := by
    rw [Bool.and_eq_true, Bool.not_eq_true', ← Bool.not_eq_true, splitParity_iff, not_and_or (a := _ = 0)]
    exact hparity
  unfold decodeReader
  rw [if_neg hn, if_neg hgood, bitField_eq, bitField_eq]

/-! ## The facility (R71) -/

theorem facilityAccepted_iff (s : State) (f : Nat) : s.facilityAccepted f = true ↔
    (∀ i ≤ 3, s.tables.facilities.get none i = none) ∨
      ∃ i ≤ 3, ∃ r, s.tables.facilities.get none i = some r ∧ r.base ≤ f ∧ f < r.base + r.count := by
  have hslot : ∀ i, i ∈ [0, 1, 2, 3] ↔ i ≤ 3 := by
    intro i
    simp only [List.mem_cons, List.not_mem_nil, or_false]
    omega
  rw [State.facilityAccepted, Bool.or_eq_true, List.isEmpty_iff, List.filterMap_eq_nil_iff,
    List.any_eq_true]
  simp only [List.mem_filterMap, hslot, Bool.and_eq_true, decide_eq_true_eq]
  refine or_congr Iff.rfl ⟨?_, ?_⟩
  · rintro ⟨r, ⟨i, hi, hr⟩, hin⟩
    exact ⟨i, hi, r, hr, hin⟩
  · rintro ⟨i, hi, r, hr, hin⟩
    exact ⟨r, ⟨i, hi, hr⟩, hin⟩

/-! ## Stage 4 (R90 to R92) -/

section
variable {s : State} {p : Presentation} {k : BadgeKey} {e : BadgeEntry} {b : Bool}

/-- The reasons of stage 4. -/
def stage4Reasons : List Reason :=
  [.suspended, .lost, .tenantSuspended, .notYetValid, .expired, .noTripsLeft]

theorem stage4_suspended (h : e.state = .suspended) : s.stage4 e b = some .suspended := if_pos h

theorem stage4_lost (h : e.state = .lost) : s.stage4 e b = some .lost := by
  simp [State.stage4, h]

theorem tenantHeld_iff : e.tenant.any (fun n => (s.active.tenants.get {} n).suspended) = true ↔
    TenantHeld s e :=
  Option.any_eq_true _ _

theorem early_iff : (s.clock.isSet && decide (s.clock.day < e.startDay)) = true ↔ Early s e := by
  rw [Bool.and_eq_true, decide_eq_true_iff]
  rfl

theorem late_iff :
    (s.clock.isSet && e.endDay.any (fun d => decide (d < s.clock.day))) = true ↔ Late s e := by
  rw [Bool.and_eq_true, Option.any_eq_true]
  simp only [decide_eq_true_eq]
  rfl

/-- A VISITOR who has no trip left and continues none. -/
def Spent (e : BadgeEntry) (continuation : Bool) : Prop :=
  e.cls = .visitor ∧ continuation = false ∧ e.trips.getD 0 = 0

theorem spent_iff :
    (decide (e.cls = .visitor) && !b && decide (e.trips.getD 0 = 0)) = true ↔ Spent e b := by
  simp [Spent, and_assoc]

theorem not_spent_iff :
    ¬ Spent e b ↔ e.cls ≠ .visitor ∨ (∃ n, e.trips = some (n + 1)) ∨ b = true := by
  have htrips : e.trips.getD 0 = 0 ↔ ¬ ∃ n, e.trips = some (n + 1) := by
    rcases e.trips with _ | _ | n <;> simp
  rw [Spent, htrips, not_and_or, not_and_or, not_not, Bool.not_eq_false,
    or_comm (a := b = true)]

/-- Stage 4 of an ACTIVE entry, its tests in their order. -/
theorem stage4_active (h : e.state = .active) [Decidable (TenantHeld s e)] [Decidable (Early s e)]
    [Decidable (Late s e)] [Decidable (Spent e b)] :
    s.stage4 e b = if TenantHeld s e then some .tenantSuspended
      else if Early s e then some .notYetValid else if Late s e then some .expired
      else if Spent e b then some .noTripsLeft else none := by
  rw [State.stage4, if_neg (by simp [h]), if_neg (by simp [h])]
  exact if_congr tenantHeld_iff rfl (if_congr early_iff rfl (if_congr late_iff rfl
    (if_congr spent_iff rfl rfl)))

theorem stage4_mem {r : Reason} (h : s.stage4 e b = some r) : r ∈ stage4Reasons := by
  unfold State.stage4 at h
  split_ifs at h <;> simp [stage4Reasons, ← Option.some.inj h]

theorem stage4_noTripsLeft (h : s.stage4 e b = some .noTripsLeft) : Spent e b := by
  classical
  cases hs : e.state with
  | suspended => exact nomatch (stage4_suspended hs).symm.trans h
  | lost => exact nomatch (stage4_lost hs).symm.trans h
  | active =>
    rw [stage4_active hs] at h
    split_ifs at h with _ _ _ hspent
    · exact nomatch h
    · exact nomatch h
    · exact nomatch h
    · exact hspent

theorem stage4_eq_none_iff : s.stage4 e b = none ↔
    e.state = .active ∧ ¬ TenantHeld s e ∧ ¬ Early s e ∧ ¬ Late s e ∧ ¬ Spent e b := by
  classical
  cases h : e.state with
  | suspended => simp [stage4_suspended h]
  | lost => simp [stage4_lost h]
  | active =>
    rw [stage4_active h]
    split_ifs <;> simp [*]

/-! ## The pass that is continued (R88, R89) -/

theorem waitingPass_eq_some_iff {x : Trip} : waitingPass s p k = some x ↔
    s.tripOfKey k = some x ∧ x.waitsAt (s.terminalConfig p.terminal).origin = true := by
  simp [waitingPass, Trip.waitsAt]

/-- The landing that a request resolves to. -/
theorem resolve_landing (s : State) (p : Presentation) (k : BadgeKey) (e : BadgeEntry) :
    (resolve (s.terminalConfig p.terminal).origin e (s.tripOfKey k) p.request).landing? =
      requested s p k e := by
  have hdefault : e.defaultWish.landing? = e.defaultLanding := by
    unfold BadgeEntry.defaultWish
    cases e.defaultLanding <;> rfl
  unfold resolve requested
  dsimp only
  split_ifs
  · rfl
  · exact hdefault
  · cases htrip : s.tripOfKey k with
    | none =>
      rw [show waitingPass s p k = none by simp [waitingPass, htrip]]
      exact hdefault
    | some x =>
      by_cases hx : x.waitsAt (s.terminalConfig p.terminal).origin = true
      · rw [waitingPass_eq_some_iff.2 ⟨htrip, hx⟩]
        exact congrArg Wish.landing? (if_pos hx)
      · have hnone : waitingPass s p k = none := by
          refine Option.eq_none_iff_forall_ne_some.2 fun y hy => hx ?_
          obtain ⟨hy', hwaits⟩ := waitingPass_eq_some_iff.1 hy
          exact Option.some.inj (htrip.symm.trans hy') ▸ hwaits
        rw [hnone]
        exact (congrArg Wish.landing? (if_neg hx)).trans hdefault
  · rfl

theorem continued_eq_some_iff {x : Trip} :
    continued (s.terminalConfig p.terminal).origin (s.tripOfKey k)
      (resolve (s.terminalConfig p.terminal).origin e (s.tripOfKey k) p.request) = some x ↔
      Continues s p k e x := by
  have hlanding : ∀ w : Wish, w.landing? = some x.final ↔ w = .landing x.final := by
    intro w
    cases w <;> simp [Wish.landing?]
  rw [Continues, waitingPass_eq_some_iff, ← resolve_landing, hlanding, continued,
    Option.filter_eq_some_iff, Bool.and_eq_true, decide_eq_true_iff, and_assoc]

/-- Whether the presentation continues a pass, as the decision asks it. -/
def continuing (s : State) (p : Presentation) (k : BadgeKey) (e : BadgeEntry) : Bool :=
  (continued (s.terminalConfig p.terminal).origin (s.tripOfKey k)
    (resolve (s.terminalConfig p.terminal).origin e (s.tripOfKey k) p.request)).isSome

theorem continuing_iff : continuing s p k e = true ↔ ∃ x, Continues s p k e x :=
  Option.isSome_iff_exists.trans (exists_congr fun _ => continued_eq_some_iff)

/-! ## How a decision ends after stage 4 -/

theorem stages5to8_not_mem {origin l : Nat} {r : Reason} (h : s.stages5to8 e origin b l = some r) :
    r ∉ stage4Reasons := by
  unfold State.stages5to8 at h
  split_ifs at h <;> simp [stage4Reasons, ← Option.some.inj h]

theorem stage10New_not_deny {existing : Option Trip} {l g : Nat} {transfer : Option Nat} {r : Reason} :
    s.stage10New e existing l g transfer ≠ .deny r := by
  unfold State.stage10New
  split
  · split_ifs <;> exact nofun
  · split_ifs <;> exact nofun

theorem stages9to10_not_mem {c : TerminalConfig} {existing pass : Option Trip} {l : Nat} {r : Reason}
    (h : s.stages9to10 e c existing pass l = .deny r) : r ∉ stage4Reasons := by
  unfold State.stages9to10 at h
  split at h
  · simp [stage4Reasons, ← Ending.deny.inj h]
  · simp [stage4Reasons, ← Ending.deny.inj h]
  · exact nomatch h
  · split at h
    · split_ifs at h
    · exact absurd h stage10New_not_deny
  · exact absurd h stage10New_not_deny

theorem decideEntry_denied {r : Reason} (h : s.stage4 e (continuing s p k e) = some r) :
    (s.decideEntry p k e).ending = .deny r := by
  unfold continuing at h
  unfold State.decideEntry
  dsimp only
  rw [h]

/-- An entry that passes stage 4 is not denied for a reason of it. -/
theorem decideEntry_passed {r : Reason} (h : s.stage4 e (continuing s p k e) = none)
    (hr : (s.decideEntry p k e).ending = .deny r) : r ∉ stage4Reasons := by
  unfold continuing at h
  unfold State.decideEntry at hr
  dsimp only at hr
  rw [h] at hr
  dsimp only at hr
  split at hr
  · simp [stage4Reasons, ← Ending.deny.inj hr]
  · simp [stage4Reasons, ← Ending.deny.inj hr]
  · split at hr
    · next hstage =>
      rw [← Ending.deny.inj hr]
      exact stages5to8_not_mem hstage
    · exact stages9to10_not_mem hr

theorem mayBeUsed_iff {b : Bool} (hb : b = true ↔ ∃ x, Continues s p k e x) :
    s.stage4 e b = none ↔ MayBeUsed s p k e := by
  rw [stage4_eq_none_iff, not_spent_iff, hb]
  rfl

/-- A reason of stage 4 is the decision's exactly when stage 4 gives it. -/
theorem denied_iff {r : Reason} (hr : r ∈ stage4Reasons) :
    (s.decideEntry p k e).ending = .deny r ↔ s.stage4 e (continuing s p k e) = some r := by
  refine ⟨fun h => ?_, decideEntry_denied⟩
  cases hstage : s.stage4 e (continuing s p k e) with
  | none => exact absurd hr (decideEntry_passed hstage h)
  | some r' => rw [Ending.deny.inj ((decideEntry_denied hstage).symm.trans h)]

/-! ## The decision at an IDLE terminal -/

theorem decideWord_foreign {format : Format} {k : BadgeKey}
    (hf : s.tables.formats.get {} (s.terminalConfig p.terminal).format = format)
    (hk : decodeReader format p.count p.bits = some k)
    (ha : ¬ s.facilityAccepted k.facility = true) :
    s.decideWord p = ⟨some k, none, .deny .foreignFacility⟩ := by
  simp [State.decideWord, hf, hk, ha]

theorem decideWord_unknown {format : Format} {k : BadgeKey}
    (hf : s.tables.formats.get {} (s.terminalConfig p.terminal).format = format)
    (hk : decodeReader format p.count p.bits = some k)
    (ha : s.facilityAccepted k.facility = true) (hlookup : s.lookup k = none) :
    s.decideWord p = ⟨some k, none, .deny .unknownBadge⟩ := by
  simp [State.decideWord, hf, hk, ha, hlookup]

theorem decideWord_found {format : Format} {k : BadgeKey} {e : BadgeEntry}
    (hf : s.tables.formats.get {} (s.terminalConfig p.terminal).format = format)
    (hk : decodeReader format p.count p.bits = some k)
    (ha : s.facilityAccepted k.facility = true) (hlookup : s.lookup k = some e) :
    s.decideWord p = s.decideEntry p k e := by
  simp [State.decideWord, hf, hk, ha, hlookup]

theorem decision_idle (hp : s.partState = .running) (hm : s.mode = .normal)
    (hidle : (s.terminal p.terminal).service = .idle) : s.decision p = s.decideWord p := by
  simp [State.decision, hp, hm, hidle]

end

/-- Settles O13: the word and the facility by the lemmas above; what stage 4 says of the entry is the decision's
(`denied_iff`), and its tests stand in their order (`stage4_active`). -/
theorem stagesOneToFourInOrder : Obligations.StagesOneToFourInOrder := by
  classical
  intro s p hpart hmode hidle c format unreadable k
  have hdecision := decision_idle (p := p) hpart hmode hidle
  refine ⟨fun h => ?_, fun h => ?_, fun h => ?_⟩
  · rw [hdecision, State.decideWord, decodeReader_none h]
  · change fieldOf p.bits format.facilityStart format.facilityLength = 0
    rw [h]
    rfl
  · intro accepted
    have haccepted : s.facilityAccepted k.facility = true ↔ accepted :=
      facilityAccepted_iff s k.facility
    have hk : decodeReader format p.count p.bits = some k := decodeReader_some h
    refine ⟨fun hno => ?_, fun hyes hkey => ?_, fun e hyes hkey => ?_⟩
    · exact hdecision.trans (decideWord_foreign rfl hk (mt haccepted.1 hno))
    · exact hdecision.trans (decideWord_unknown rfl hk (haccepted.2 hyes) hkey)
    · intro continues
      have hentry : s.decision p = s.decideEntry p k e :=
        hdecision.trans (decideWord_found rfl hk (haccepted.2 hyes) hkey)
      have hcontinues : continuing s p k e = true ↔ continues := continuing_iff
      rw [hentry]
      have hdenied : ∀ {r}, s.stage4 e (continuing s p k e) = some r →
          (s.decideEntry p k e).ending = .deny r := decideEntry_denied
      have hlast : Spent e (continuing s p k e) ↔
          ¬ (e.cls ≠ .visitor ∨ (∃ n, e.trips = some (n + 1)) ∨ continues) := by
        rw [← hcontinues, ← not_spent_iff, not_not]
      refine ⟨rfl, rfl, fun b hb => mayBeUsed_iff hb, ?_, fun hs => ?_, fun hs => ?_, fun hs ht => ?_,
        fun hs ht he => ?_, fun hs ht he hl => ?_, fun hs ht he hl hc hn hno => ?_, fun hgo hn => ?_⟩
      · rw [← mayBeUsed_iff hcontinues, ← Ne, Option.ne_none_iff_exists']
        constructor
        · rintro ⟨r, hr, hend⟩
          exact ⟨r, (denied_iff hr).1 hend⟩
        · rintro ⟨r, hr⟩
          exact ⟨r, stage4_mem hr, hdenied hr⟩
      · exact hdenied (stage4_suspended hs)
      · exact hdenied (stage4_lost hs)
      · exact hdenied ((stage4_active hs).trans (if_pos ht))
      · exact hdenied ((stage4_active hs).trans ((if_neg ht).trans (if_pos he)))
      · exact hdenied ((stage4_active hs).trans ((if_neg ht).trans ((if_neg he).trans (if_pos hl))))
      · have hspent : Spent e (continuing s p k e) :=
          ⟨hc, Bool.eq_false_iff.2 (mt hcontinues.1 hno), by rw [hn]; rfl⟩
        exact hdenied ((stage4_active hs).trans ((if_neg ht).trans ((if_neg he).trans
          ((if_neg hl).trans (if_pos hspent)))))
      · have hstage := (denied_iff (by simp [stage4Reasons])).1 hn
        exact hlast.1 (stage4_noTripsLeft hstage) hgo

end Sys2Proof.Safety
end

section
/-! SUPPORT. What a forming of the building mode does to the work in hand, and the proof of O39 (R79, R142, R150, R155, R156, R158, R183). -/

namespace Sys2Proof.Safety

open Sys2Proof.Machine

/-! ## The trips that recall entry ends (R156) -/

/-- Each terminal that awaits one of the trips is answered DENY SERVICE_SUSPENDED, in the order of the trips. -/
def endTrips (s : State) (trips : List Trip) : State :=
  trips.foldl (fun s t => s.endAwait t (t.answer .denied (some .serviceSuspended) none none)) s

theorem recallEntry_eq (s : State) : s.recallEntry =
    let u := endTrips { s with
      groups := s.groups.mapValues {} GroupState.cleared, cancels := [], trips := [] } s.trips
    ({ u with terminals := u.terminals.mapValues {} TerminalState.released } : State).raise
      .recallEntered :=
  rfl

theorem endTrips_cons (s : State) (x : Trip) (trips : List Trip) : endTrips s (x :: trips) =
    endTrips (s.endAwait x (serviceSuspended x)) trips :=
  rfl

theorem endTrips_answers (trips : List Trip) (s : State) :
    ∃ more, (endTrips s trips).answers = s.answers ++ more ∧
      AnswersInOrder s trips serviceSuspended more := by
  induction trips generalizing s with
  | nil => exact ⟨[], (List.append_nil _).symm, List.Sublist.refl _, List.nodup_nil, nofun⟩
  | cons x trips ih =>
    have hv : (serviceSuspended x).verdict ≠ .admitted := by simp [serviceSuspended]
    obtain ⟨more, hmore, horder⟩ := ih (s.endAwait x (serviceSuspended x))
    refine ⟨_, ?_, .cons (fun _ => rfl) (idled_endAwait s x _ hv) (List.Sublist.refl _)
      (fun y hy => .inl hy) horder⟩
    rw [endTrips_cons, hmore, endAwait_answers s x _ hv, List.append_assoc]

theorem released_of_awaiting {v : TerminalState} {n : Nat} (h : v.service = .awaiting n) :
    v.released = { v with service := .idle } := by
  unfold TerminalState.released
  rw [h]

/-- A terminal that is answered meanwhile is released all the same. -/
theorem endTrips_released (trips : List Trip) (s : State) (u : Nat) :
    ((endTrips s trips).terminal u).released = (s.terminal u).released := by
  induction trips generalizing s with
  | nil => rfl
  | cons x trips ih =>
    rw [endTrips_cons, ih, idled_endAwait s x _ (by simp [serviceSuspended]) u]
    split_ifs with hu
    · obtain ⟨rfl, hx⟩ := hu
      rw [released_of_awaiting hx]
      rfl
    · rfl

theorem wf_endTrips (trips : List Trip) (s : State) (h : Store.wf {} s.terminals = true) :
    Store.wf {} (endTrips s trips).terminals = true := by
  induction trips generalizing s with
  | nil => exact h
  | cons x trips ih =>
    refine ih (s.endAwait x (serviceSuspended x)) ?_
    by_cases hx : Awaits s x
    · rw [s.endAwait_some x _ hx, State.placeAnswer_other _ _ (by simp [serviceSuspended])]
      exact Store.wf_set _ _ _ _ h
    · rw [s.endAwait_none x _ hx]
      exact h

theorem recallEntry_answers (s : State) : ∃ more, s.recallEntry.answers = s.answers ++ more ∧
    AnswersInOrder s s.trips serviceSuspended more :=
  endTrips_answers s.trips _

theorem recallEntry_terminal {s : State} (h : Store.wf {} s.terminals = true) (u : Nat) :
    s.recallEntry.terminal u = (s.terminal u).released := by
  let cleared : State := { s with
    groups := s.groups.mapValues {} GroupState.cleared, cancels := [], trips := [] }
  exact (Store.get_mapValues ({} : TerminalState) TerminalState.released rfl _
    (wf_endTrips s.trips cleared h) u).trans (endTrips_released s.trips cleared u)

theorem recallEntry_group {s : State} (h : Store.wf {} s.groups = true) (g : Nat) :
    s.recallEntry.group g = { s.group g with queue := [], outstanding := [] } := by
  rw [State.recallEntry_frame]
  exact Store.get_mapValues ({} : GroupState) GroupState.cleared rfl s.groups h g

/-! ## Forming the mode (R155) -/

theorem formedMode_iff (s : State) : s.formedMode = .recall ↔
    s.recallFlag = true ∨ ∃ j ≤ 7, (s.line j).status ≠ .normal ∧
      (s.lineConfig j).mask = false ∧ (s.lineConfig j).action = .recall := by
  have hline : ∀ j, j ∈ lineNumbers ↔ j ≤ 7 := by
    intro j
    simp only [lineNumbers, List.mem_cons, List.not_mem_nil, or_false]
    omega
  have htest : (s.recallFlag || lineNumbers.any (fun k =>
      lineInForce (s.lineConfig k) (s.line k) && decide ((s.lineConfig k).action = .recall))) = true ↔
      s.recallFlag = true ∨ ∃ j ≤ 7, (s.line j).status ≠ .normal ∧
        (s.lineConfig j).mask = false ∧ (s.lineConfig j).action = .recall := by
    simp [hline, lineInForce, and_assoc]
  rw [← htest, State.formedMode]
  split_ifs with h
  · simp [h]
  · simp [h]

/-- The work in hand follows the mode. -/
theorem workFollowsMode_formMode (s : State) : WorkFollowsMode s s.formMode := by
  rcases s.formMode_cases with ⟨-, e⟩ | ⟨-, hm, e⟩ | ⟨-, hm, e⟩ <;> rw [e]
  · exact ⟨fun _ => ⟨rfl, rfl, rfl, rfl, rfl⟩, fun hn hr => nomatch hn.symm.trans hr⟩
  · have hrecall : ({ s with mode := .recall } : State).recallEntry.mode = .recall := by
      rw [State.recallEntry_frame]
    refine ⟨fun h => ?_, fun _ _ => ⟨?_, ?_, recallEntry_answers _,
      fun h g => recallEntry_group (s := { s with mode := .recall }) h g, fun h u => ?_⟩⟩
    · rcases h with h | h
      · exact nomatch hm.symm.trans h
      · exact nomatch hrecall.symm.trans h
    · rw [State.recallEntry_frame]
    · rw [State.recallEntry_frame]
    · refine (recallEntry_terminal (s := { s with mode := .recall }) h u).trans ?_
      unfold TerminalState.released
      rfl
  · exact ⟨fun _ => ⟨rfl, rfl, rfl, rfl, rfl⟩, fun hn _ => nomatch hm.symm.trans hn⟩

/-- What `WorkFollowsMode` speaks of. -/
def workParts (s : State) := (s.mode, s.groups, s.cancels, s.trips, s.answers, s.terminals)

theorem WorkFollowsMode.of_parts {s t s' t' : State} (h : WorkFollowsMode s t)
    (hs : workParts s' = workParts s) (ht : workParts t' = workParts t) : WorkFollowsMode s' t' := by
  simp only [workParts, Prod.mk.injEq] at hs ht
  obtain ⟨hm, hg, hc, hx, ha, hu⟩ := hs
  obtain ⟨hm', hg', hc', hx', ha', hu'⟩ := ht
  unfold WorkFollowsMode WorkStays AnswersInOrder Awaits State.group State.terminal at h ⊢
  rw [hm, hg, hc, hx, ha, hu, hm', hg', hc', hx', ha', hu']
  exact h

/-! ## RELEASE_TERMINAL, ACK_LINE and CLEAR_EVENTS -/

theorem exec_releaseTerminal (s : State) :
    exec .releaseTerminal s = .next (s.serve (isOp 23) handleReleaseTerminal) := rfl

theorem exec_ackLine (s : State) :
    exec .ackLine s = .next (s.serve (isOp 24) handleAckLine) := rfl

theorem exec_clearEvents (s : State) :
    exec .clearEvents s = .next (s.serve (isOp 31) handleClearEvents) := rfl

theorem freed_eq (v : TerminalState) : v.freed = { v with
    tally := 0, decay := none, holds := 0
    service := match v.service with
      | .held _ | .latched | .idle => .idle
      | .awaiting x => .awaiting x } := by
  unfold TerminalState.freed
  cases v.service <;> rfl

theorem setLine_line (s : State) (k j : Nat) (v : LineState) :
    (s.setLine k v).line j = if j = k then v else s.line j :=
  (Store.get_set ({} : LineState) s.lines k j v).trans (if_congr eq_comm rfl rfl)

theorem raised_raiseLine (s : State) (c : LineConfig) (k : EventKind) :
    Raised s (s.raiseLine c k) (onlyIf (c.mask = false) k) := by
  unfold State.raiseLine
  cases h : c.mask with
  | true => exact (onlyIf_false (p := true = false) (by decide) k) ▸ Raised.refl s
  | false => exact (onlyIf_true (p := false = false) rfl k) ▸ (Raised.refl _).raise

/-- The kinds of the set read as clear, and the others as they did. -/
theorem clearKinds_get (set : EventSet) (events : Store EventCell) (j : Nat) :
    (clearKinds set events).get {} j = if memSet set j then {} else events.get {} j := by
  induction events with
  | nil => exact (ite_self _).symm
  | cons e events ih =>
    obtain ⟨k, v⟩ := e
    rw [clearKinds, List.filter_cons]
    by_cases hk : memSet set k = true
    · rw [if_neg (by simp [hk]), Store.get_cons]
      by_cases hj : memSet set j = true
      · rw [if_pos hj]
        exact ih.trans (if_pos hj)
      · have hkj : k ≠ j := fun h => hj (h ▸ hk)
        rw [if_neg hj, if_neg hkj]
        exact ih.trans (if_neg hj)
    · rw [if_pos (by simp [hk]), Store.get_cons, Store.get_cons]
      by_cases hkj : k = j
      · subst hkj
        rw [if_pos rfl, if_pos rfl, if_neg hk]
      · rw [if_neg hkj, if_neg hkj]
        exact ih

theorem number_le (k : EventKind) : k.number ≤ 19 := by
  cases k <;> decide

theorem memSet_eventSetAt (p : List Byte) (i : Nat) {j : Nat} (hj : j ≤ 19) :
    memSet (eventSetAt p i) j = (numAt p i 3).testBit (23 - j) := by
  rw [memSet, eventSetAt, BitVec.getMsbD_eq_getLsbD, BitVec.getLsbD_ofNat,
    decide_eq_true (by omega : j < 24), decide_eq_true (by omega : 24 - 1 - j < 24)]
  rfl

/-! ### An acknowledged line (R150) -/

section
variable {s : State} {k : Nat}

/-- The line is NORMAL and ALARM_CLEARED is raised; the mode is still to be formed. -/
def cleared (s : State) (k : Nat) : State :=
  (s.setLine k { s.line k with status := .normal }).raiseLine (s.lineConfig k) .alarmCleared

theorem unlatch_eq : s.unlatch k = (cleared s k).formMode := rfl

theorem cleared_frame : cleared s k = { s with
    lines := (s.setLine k { s.line k with status := .normal }).lines
    events := (cleared s k).events, notices := (cleared s k).notices } := by
  unfold cleared
  rw [State.raiseLine_frame]
  rfl

theorem unlatch_frame : s.unlatch k = { s with
    lines := (s.setLine k { s.line k with status := .normal }).lines, mode := (s.unlatch k).mode
    groups := (s.unlatch k).groups, cancels := (s.unlatch k).cancels, trips := (s.unlatch k).trips
    answers := (s.unlatch k).answers, terminals := (s.unlatch k).terminals
    events := (s.unlatch k).events, notices := (s.unlatch k).notices } := by
  rw [unlatch_eq, State.formMode_frame, cleared_frame]

theorem cleared_mode : (cleared s k).mode = s.mode := by rw [cleared_frame]

/-- Without a change of the mode the line and the event are all. -/
theorem unlatch_of_mode (h : (s.unlatch k).mode = s.mode) : s.unlatch k = { s with
    lines := (s.unlatch k).lines, events := (s.unlatch k).events
    notices := (s.unlatch k).notices } := by
  rw [unlatch_eq, State.formMode_mode, ← cleared_mode (k := k)] at h
  have hsame : s.unlatch k = cleared s k := if_pos h
  rw [hsame, cleared_frame]

theorem unlatch_line (j : Nat) : (s.unlatch k).line j =
    if j = k then { s.line j with status := .normal } else s.line j := by
  rw [unlatch_frame]
  refine (setLine_line s k j _).trans (ite_congr rfl (fun hj => ?_) fun _ => rfl)
  rw [hj]

theorem raised_unlatch : Raised s (s.unlatch k)
    (onlyIf ((s.lineConfig k).mask = false) .alarmCleared ++ modeEvents s (s.unlatch k)) := by
  have hcleared : Raised s (cleared s k) (onlyIf ((s.lineConfig k).mask = false) .alarmCleared) :=
    (raised_raiseLine _ (s.lineConfig k) .alarmCleared).of_start (fun _ => rfl) rfl rfl
  have hmode : modeEvents (cleared s k) (s.unlatch k) = modeEvents s (s.unlatch k) := by
    unfold modeEvents
    rw [cleared_mode]
  exact hcleared.append (by rw [cleared_frame]) (hmode ▸ raised_formMode (cleared s k))

theorem workFollowsMode_unlatch : WorkFollowsMode s (s.unlatch k) :=
  (workFollowsMode_formMode (cleared s k)).of_parts (by rw [cleared_frame]; rfl) rfl

theorem unlatch_mode : (s.unlatch k).mode = .recall ↔
    s.recallFlag = true ∨ ∃ j ≤ 7, ((s.unlatch k).line j).status ≠ .normal ∧
      (s.lineConfig j).mask = false ∧ (s.lineConfig j).action = .recall := by
  have hline : ∀ j, (s.unlatch k).line j = (cleared s k).line j := by
    intro j
    rw [unlatch_eq, State.formMode_frame]
    rfl
  have hconfig : (cleared s k).lineConfig = s.lineConfig := by
    rw [cleared_frame]
    rfl
  have hflag : (cleared s k).recallFlag = s.recallFlag := by rw [cleared_frame]
  simp only [hline]
  rw [unlatch_eq, State.formMode_mode, formedMode_iff, hconfig, hflag]

end

/-- Settles O39: the checks pass or refuse; after an acknowledgement the mode is formed anew
(`raised_formMode`, `workFollowsMode_formMode`, `formedMode_iff`). -/
theorem releaseAcknowledgeAndClear : Obligations.ReleaseAcknowledgeAndClear := by
  intro s p rest n
  let taken : State := { s with requests := rest }
  refine ⟨fun h => ?_, fun h => ?_, fun h => ?_⟩
  · split_ifs with hn
    · have hdone := h.done (exec_releaseTerminal s) ((h.checkCommand _).trans
        (State.checkIndex_pass _ _ _ ((stationOk_iff n).2 hn)))
      rw [freed_eq] at hdone
      exact hdone
    · exact h.refused (exec_releaseTerminal s) ((h.checkCommand _).trans
        (checkIndex_refuse _ (mt (stationOk_iff n).1 hn) _))
  · intro c isActive
    have hactive : lineActive (taken.lineConfig n) (taken.line n) = true ↔ isActive :=
      decide_eq_true_iff
    have hpass : n ≤ 7 → handleAckLine p taken = _ := fun hn =>
      (h.checkCommand _).trans (checkIndex_le_pass taken _ hn)
    refine ⟨fun hn => ?_, fun hn hl => ?_, fun hn hl ha => ?_, fun hn hl ha => ?_⟩
    · exact h.refused (exec_ackLine s) ((h.checkCommand _).trans (checkIndex_le_refuse taken _ hn))
    · exact h.done (exec_ackLine s) ((hpass hn).trans (if_neg hl))
    · exact h.refused (exec_ackLine s) ((hpass hn).trans ((if_pos hl).trans (if_pos (hactive.2 ha))))
    · have hexec := h.done (exec_ackLine s)
        ((hpass hn).trans ((if_pos hl).trans (if_neg (mt hactive.1 ha))))
      refine ⟨_, hexec, ?_, fun hmode => ?_, fun j => unlatch_line (s := taken) j,
        ?_, (workFollowsMode_unlatch (s := taken)).of_parts rfl rfl, unlatch_mode (s := taken)⟩
      · rw [unlatch_frame]
        rfl
      · have hsame := unlatch_of_mode (s := taken) hmode
        rw [hsame]
        rfl
      · exact Raised.of_start (Raised.of_end (raised_unlatch (s := taken)) rfl rfl) (fun _ => rfl)
          rfl rfl
  · have hset : (eventSetAt p operandAt).toNat % 16 = numAt p 6 3 % 16 := by
      rw [eventSetAt, BitVec.toNat_ofNat]
      exact Nat.mod_mod_of_dvd _ (by decide)
    refine ⟨fun hbad => ?_, fun hgood => ?_⟩
    · exact h.refused (exec_clearEvents s) ((h.checkCommand _).trans
        (checkField_refuse _ (mt of_decide_eq_true (hset ▸ hbad)) _))
    · refine ⟨_, h.done (exec_clearEvents s) ((h.checkCommand _).trans
        (State.checkField_pass _ _ _ (decide_eq_true (hset.trans hgood)))), rfl, fun k => ?_⟩
      rw [← memSet_eventSetAt p 6 (number_le k)]
      exact clearKinds_get _ s.events k.number

end Sys2Proof.Safety
end

section
/-! SUPPORT. What a decision's ending and its report leave, which endings a decision that is not a DENY has, and the proofs of O12 and O20 (R82 to R85, R98 to R106, R185). -/

namespace Sys2Proof.Safety

open Sys2Proof.Machine

section
variable {s : State} {p : Presentation} {k : BadgeKey} {e : BadgeEntry}

/-! ## The ending, and then the report (R82, R106, R185) -/

@[simp] theorem applyEnding_tables (s : State) (u : Nat) (d : Decision) :
    (s.applyEnding u d).tables = s.tables := by
  rw [State.applyEnding_frame]

@[simp] theorem applyEnding_reports (s : State) (u : Nat) (d : Decision) :
    (s.applyEnding u d).reports = s.reports := by
  rw [State.applyEnding_frame]

/-- REPORTS_LOST alone stands between a report and silence (R185). -/
theorem queueReport_quiet (r : Report)
    (h : ¬ (s.tables.settings.reporting = true ∧ 32 ≤ s.reports.length)) :
    (s.queueReport r).events = s.events ∧ (s.queueReport r).notices = s.notices := by
  rcases s.queueReport_cases r with ⟨-, e⟩ | ⟨-, -, e⟩ | ⟨hon, hfull, -⟩
  · rw [e]; exact ⟨rfl, rfl⟩
  · rw [e]; exact ⟨rfl, rfl⟩
  · exact absurd ⟨hon, hfull⟩ h

/-- A presentation leaves what the ending of its decision leaves, with the report placed, or dropped with
REPORTS_LOST. -/
theorem admission_of_ending {d : Decision} {u : State} (hd : s.decision p = d)
    (hu : s.applyEnding p.terminal d = u) :
    ∃ t, s.admission p = t ∧
      t = { u with
        reports := reported s (s.reportOf p d), events := t.events, notices := t.notices } ∧
      Raised u t (overflow s) ∧
      (¬ (s.tables.settings.reporting = true ∧ 32 ≤ s.reports.length) →
        t.events = u.events ∧ t.notices = u.notices) := by
  subst hu hd
  refine ⟨_, rfl, ?_, ?_, fun h => ?_⟩
  · refine (State.queueReport_frame _ _).trans ?_
    rw [queueReport_reports, reported, applyEnding_tables, applyEnding_reports, ← reported]
    rfl
  · have hoverflow : overflow (s.applyEnding p.terminal (s.decision p)) = overflow s := by
      rw [overflow, applyEnding_tables, applyEnding_reports, ← overflow]
    exact hoverflow ▸ raised_queueReport _ _
  · exact queueReport_quiet _ (by rwa [applyEnding_tables, applyEnding_reports])

/-! ## The endings of a decision that is not a DENY (R98 to R102) -/

/-- The destination request as the decision resolves it (R88). -/
def wishOf (s : State) (p : Presentation) (k : BadgeKey) (e : BadgeEntry) : Wish :=
  resolve (s.terminalConfig p.terminal).origin e (s.tripOfKey k) p.request

theorem wishOf_landing : (wishOf s p k e).landing? = requested s p k e := resolve_landing s p k e

/-- The pass that the decision continues (R89). -/
def continuedPass (s : State) (p : Presentation) (k : BadgeKey) (e : BadgeEntry) : Option Trip :=
  continued (s.terminalConfig p.terminal).origin (s.tripOfKey k) (wishOf s p k e)

theorem continuedPass_eq_some_iff {x : Trip} :
    continuedPass s p k e = some x ↔ Continues s p k e x := continued_eq_some_iff

/-- Stages 9 and 10 of a presentation whose request resolved to `l` (R98 to R102). -/
def lastStages (s : State) (p : Presentation) (k : BadgeKey) (e : BadgeEntry) (l : Nat) : Ending :=
  s.stages9to10 e (s.terminalConfig p.terminal) (s.tripOfKey k) (continuedPass s p k e) l

/-- What an ending that is not a DENY says of the key's record and its pass: RETRY has one of two reasons, REPEAT
names a record of the key for the landing, and a pass that is carried on is continued. -/
def EndingFits (s : State) (p : Presentation) (k : BadgeKey) (e : BadgeEntry) (l : Nat) : Ending → Prop
  | .retry r => r = .noService ∨ r = .groupBusy
  | .repeated x => s.tripOfKey k = some x ∧ x.final = l ∧ x.state ≠ .awaitingTransfer
  | .carry x _ _ => Continues s p k e x
  | .deny _ | .create _ _ _ => True

theorem stage10New_fits (l g : Nat) (via : Option Nat) :
    EndingFits s p k e l (s.stage10New e (s.tripOfKey k) l g via) := by
  unfold State.stage10New
  split
  · next x hx =>
    split_ifs with hsame
    · simp only [Bool.and_eq_true, decide_eq_true_eq] at hsame
      exact ⟨hx, hsame⟩
    · exact .inr rfl
    · trivial
  · split_ifs
    · exact .inr rfl
    · trivial

theorem lastStages_fits (l : Nat) : EndingFits s p k e l (lastStages s p k e l) := by
  unfold lastStages State.stages9to10
  split
  · trivial
  · trivial
  · exact .inl rfl
  · split
    · next x hx =>
      split_ifs
      · exact .inr rfl
      · exact continuedPass_eq_some_iff.1 hx
    · exact stage10New_fits l _ _
  · exact stage10New_fits l _ _

/-! ### An entry that passes stage 4 -/

section
variable (h4 : s.stage4 e (continuing s p k e) = none)
include h4

theorem decideEntry_unresolved (hw : wishOf s p k e = .unresolved) :
    (s.decideEntry p k e).ending = .deny .noDefault := by
  unfold continuing at h4
  unfold wishOf at hw
  unfold State.decideEntry
  dsimp only
  rw [h4, hw]

theorem decideEntry_undefined (hw : wishOf s p k e = .undefined) :
    (s.decideEntry p k e).ending = .deny .badDestination := by
  unfold continuing at h4
  unfold wishOf at hw
  unfold State.decideEntry
  dsimp only
  rw [h4, hw]

/-- A resolved landing is refused by stages 5 to 8 or goes on to stages 9 and 10. -/
theorem decideEntry_landing {l : Nat} (hw : wishOf s p k e = .landing l) :
    (s.decideEntry p k e).ending =
      (s.stages5to8 e (s.terminalConfig p.terminal).origin (continuing s p k e) l).elim
        (lastStages s p k e l) .deny := by
  unfold lastStages continuedPass
  unfold continuing at h4 ⊢
  unfold wishOf at hw ⊢
  unfold State.decideEntry
  dsimp only
  rw [h4, hw]
  dsimp only
  split
  · next hstage => rw [hstage, Option.elim]
  · next hstage => rw [hstage, Option.elim]

end

/-- An entry that is not denied has passed to stages 9 and 10. -/
theorem decideEntry_of_not_deny (h : ∀ r, (s.decideEntry p k e).ending ≠ .deny r) :
    ∃ l, requested s p k e = some l ∧ (s.decideEntry p k e).ending = lastStages s p k e l := by
  cases h4 : s.stage4 e (continuing s p k e) with
  | some r => exact absurd (decideEntry_denied h4) (h r)
  | none =>
    cases hw : wishOf s p k e with
    | unresolved => exact absurd (decideEntry_unresolved h4 hw) (h _)
    | undefined => exact absurd (decideEntry_undefined h4 hw) (h _)
    | landing l =>
      have hending := decideEntry_landing h4 hw
      cases h5 : s.stages5to8 e (s.terminalConfig p.terminal).origin (continuing s p k e) l with
      | some r => exact absurd (by rw [hending, h5, Option.elim]) (h r)
      | none => exact ⟨l, by rw [← wishOf_landing, hw]; rfl, by rw [hending, h5, Option.elim]⟩

/-- A decision that is not a DENY is that of an entry. -/
theorem decision_of_not_deny (h : ∀ r, (s.decision p).ending ≠ .deny r) :
    ∃ k e, s.decision p = s.decideEntry p k e := by
  have hword : (∀ r, (s.decideWord p).ending ≠ .deny r) →
      ∃ k e, s.decideWord p = s.decideEntry p k e := by
    unfold State.decideWord
    dsimp only
    split
    · exact fun hw => absurd rfl (hw _)
    · split
      · exact fun hw => absurd rfl (hw _)
      · split
        · exact fun hw => absurd rfl (hw _)
        · exact fun _ => ⟨_, _, rfl⟩
  revert h
  unfold State.decision
  split_ifs
  · exact fun h => absurd rfl (h _)
  · exact fun h => absurd rfl (h _)
  · split
    · exact fun h => absurd rfl (h _)
    · exact fun h => absurd rfl (h _)
    · exact hword
    · exact hword

/-- Such a decision has a key and a landing, and an ending that fits them. -/
theorem decision_fits (h : ∀ r, (s.decision p).ending ≠ .deny r) :
    ∃ k e l, (s.decision p).key = some k ∧ (s.decision p).destination = some l ∧
      requested s p k e = some l ∧ EndingFits s p k e l (s.decision p).ending := by
  obtain ⟨k, e, hentry⟩ := decision_of_not_deny h
  rw [hentry] at h ⊢
  obtain ⟨l, hl, hpassed⟩ := decideEntry_of_not_deny h
  exact ⟨k, e, l, rfl, wishOf_landing.trans hl, hl, hpassed ▸ lastStages_fits l⟩

/-! ## Endings that place an answer alone (R83 to R85, R99, R100, R104) -/

/-- A presentation whose ending places one answer leaves that answer and the report. -/
theorem admission_of_answer {d : Decision} {a : Answer} (hd : s.decision p = d)
    (hu : s.applyEnding p.terminal d = { s with answers := s.answers ++ [a] }) :
    ∃ t, s.admission p = t ∧
      t = { s with
        answers := s.answers ++ [a], reports := reported s (s.reportOf p d)
        events := t.events, notices := t.notices } ∧
      Raised s t (overflow s) ∧
      (¬ (s.tables.settings.reporting = true ∧ 32 ≤ s.reports.length) →
        t.events = s.events ∧ t.notices = s.notices) := by
  obtain ⟨t, ht, hframe, hraised, hquiet⟩ := admission_of_ending hd hu
  exact ⟨t, ht, hframe, hraised.of_start (fun _ => rfl) rfl rfl, hquiet⟩

/-- The reasons of stage 0 (R83 to R85). -/
theorem applyEnding_turnedAway {why : Reason} (u : Nat)
    (h : why ∈ [Reason.unconfigured, .serviceSuspended, .terminalHeld, .terminalLatched]) :
    s.applyEnding u ⟨none, none, .deny why⟩ =
      { s with answers := s.answers ++ [⟨u, .denied, some why, none, none, none, false⟩] } := by
  have hreason : why.counted = false ∧ why ≠ .lost := by
    revert h
    cases why <;> decide
  change State.deny (if why = .lost then s.raise .lostBadgeSeen else s) u why none = _
  rw [if_neg hreason.2, deny_uncounted hreason.1]

end

/-- Settles O12: each case of stage 0 gives its reason, which is not counted and places its answer alone. -/
theorem stageZeroTurnsAway : Obligations.StageZeroTurnsAway := by
  intro s p why hwhy
  obtain ⟨hdecision, hreason⟩ : s.decision p = ⟨none, none, .deny why⟩ ∧
      why ∈ [Reason.unconfigured, .serviceSuspended, .terminalHeld, .terminalLatched] := by
    rcases hwhy with ⟨hpart, rfl⟩ | ⟨hpart, hmode, rfl⟩ | ⟨hpart, hmode, ⟨d, hheld⟩, rfl⟩ |
      ⟨hpart, hmode, hlatched, rfl⟩
    · exact ⟨if_pos hpart, by decide⟩
    · exact ⟨by simp [State.decision, hpart, hmode], by decide⟩
    · exact ⟨by simp [State.decision, hpart, hmode, hheld], by decide⟩
    · exact ⟨by simp [State.decision, hpart, hmode, hlatched], by decide⟩
  obtain ⟨t, ht, hframe, hraised, hquiet⟩ :=
    admission_of_answer hdecision (applyEnding_turnedAway p.terminal hreason)
  have hanswers : t.answers = s.answers ++ [⟨p.terminal, .denied, some why, none, none, none, false⟩] := by
    rw [hframe]
  have hreports : t.reports = reported s ⟨s.moment, s.clock.isSet, p.terminal, none, p.request, none,
      .denied, some why, none⟩ := by
    rw [hframe]
    rfl
  refine ⟨t, ht, hanswers, hreports, hquiet, hraised, ?_⟩
  rw [hanswers, hreports]
  exact hframe

/-- Settles O20: the ending fits the key's record (`decision_fits`), and its answer is all that it places. -/
theorem repeatAndRetryLeaveTheTrips : Obligations.RepeatAndRetryLeaveTheTrips := by
  rintro s p d rfl report
  refine ⟨fun x hx => ?_, fun r hr => ?_⟩
  · obtain ⟨k, e, l, hkey, hdestination, -, hfits⟩ := decision_fits (s := s) (p := p) (by simp [hx])
    rw [hx] at hfits
    obtain ⟨htrip, rfl, hstate⟩ := hfits
    refine ⟨⟨k, hkey, htrip, hdestination, hstate⟩, ?_⟩
    obtain ⟨t, ht, hframe, hraised, -⟩ :=
      admission_of_answer (s := s) (p := p) (a := x.repeatAnswer p.terminal) rfl <| by
        unfold State.applyEnding
        rw [hx]
        exact State.placeAnswer_other s _ (by simp [Trip.repeatAnswer])
    refine ⟨t, ht, ?_, hraised⟩
    rw [State.reportOf, hx] at hframe
    exact hframe
  · obtain ⟨k, e, l, -, -, -, hfits⟩ := decision_fits (s := s) (p := p) (by simp [hr])
    rw [hr] at hfits
    refine ⟨hfits, ?_⟩
    obtain ⟨t, ht, hframe, hraised, -⟩ :=
      admission_of_answer (s := s) (p := p) (a := ⟨p.terminal, .retry, some r,
        (s.decision p).destination, none, none, false⟩) rfl <| by
        unfold State.applyEnding
        rw [hr]
        exact State.placeAnswer_other s _ (by simp)
    refine ⟨t, ht, ?_, hraised⟩
    rw [State.reportOf, hr] at hframe
    exact hframe

end Sys2Proof.Safety
end

section
/-! SUPPORT. The grant, stages 5 to 8 and the endings of stages 9 and 10 in the statements' terms, and the proofs of O14 and O16 (R2, R16, R45, R88 to R102). -/

namespace Sys2Proof.Safety

open Sys2Proof.Machine

/-! ## The grant (R96) -/

section
variable {s : State} {e : BadgeEntry} {l : Nat}

theorem inGrant_override (h : e.cls = .override) :
    s.inGrant e l = decide (l < s.settings.landingCount) := by
  simp [State.inGrant, h]

theorem inGrant_service (h : e.cls = .service) :
    s.inGrant e l = (decide (l < s.settings.landingCount) &&
      (memSet (s.bandLandings e.profile) l || (s.landing l).common)) := by
  simp [State.inGrant, h]

/-- The lease of a tenant, if the entry has one, limits the band landings of STAFF and VISITOR. -/
theorem inGrant_leased (h : e.cls = .staff ∨ e.cls = .visitor) :
    s.inGrant e l = (decide (l < s.settings.landingCount) &&
      ((memSet (s.bandLandings e.profile) l &&
        e.tenant.all (fun n => memSet (s.active.tenants.get {} n).lease l)) ||
          (s.landing l).common)) := by
  cases ht : e.tenant with
  | none => rcases h with h | h <;> simp [State.inGrant, h, ht]
  | some n => rcases h with h | h <;> simp [State.inGrant, h, ht]

end

/-- Settles O16: class by class, the band landings by their members (`State.mem_bandLandings`). -/
theorem grantOfAnEntry : Obligations.GrantOfAnEntry := by
  intro s e l band limited
  have hband : memSet (s.bandLandings e.profile) l = true ↔ band := s.mem_bandLandings e.profile l
  have hclass : e.cls = .override ∨ e.cls = .service ∨ (e.cls = .staff ∨ e.cls = .visitor) := by
    cases e.cls <;> simp
  rcases hclass with h | h | h
  · rw [inGrant_override h, decide_eq_true_iff]
    exact (and_iff_left (.inl h)).symm
  · have hover : e.cls ≠ .override := by simp [h]
    have hfree : ¬ limited := by simp [limited, h]
    rw [inGrant_service h, Bool.and_eq_true, decide_eq_true_iff, Bool.or_eq_true, hband,
      or_comm (a := band), and_iff_left hfree, or_iff_right hover]
    rfl
  · have hover : e.cls ≠ .override := by rcases h with h | h <;> simp [h]
    have hlease : e.tenant.all (fun n => memSet (s.active.tenants.get {} n).lease l) = true ↔
        ¬ limited := by
      simp [limited, h, Option.all_eq_true]
    rw [inGrant_leased h, Bool.and_eq_true, decide_eq_true_iff, Bool.or_eq_true, Bool.and_eq_true,
      hband, hlease, or_comm (a := band ∧ ¬ limited), or_iff_right hover]
    rfl

section
variable {s : State} {p : Presentation} {k : BadgeKey} {e : BadgeEntry} {origin l g : Nat} {b : Bool}

/-! ## Resolution (R88) -/

theorem wishOf_eq_undefined_iff : wishOf s p k e = .undefined ↔ 130 ≤ p.request.toNat := by
  have hdefault : e.defaultWish ≠ .undefined := by
    unfold BadgeEntry.defaultWish
    split <;> exact nofun
  unfold wishOf resolve
  split_ifs with h1 h2 h3
  · exact ⟨nofun, fun h => by omega⟩
  · exact ⟨fun h => absurd h hdefault, fun h => by omega⟩
  · refine ⟨fun h => ?_, fun h => by omega⟩
    split at h
    · split_ifs at h
      exact absurd h hdefault
    · exact absurd h hdefault
  · exact ⟨fun _ => by omega, fun _ => rfl⟩

theorem wishOf_eq_landing_iff : wishOf s p k e = .landing l ↔ requested s p k e = some l := by
  rw [← wishOf_landing]
  cases wishOf s p k e <;> simp [Wish.landing?]

theorem wishOf_eq_unresolved (h : p.request.toNat ≤ 129) (hno : requested s p k e = none) :
    wishOf s p k e = .unresolved := by
  cases hw : wishOf s p k e with
  | unresolved => rfl
  | undefined => exact absurd (wishOf_eq_undefined_iff.1 hw) (by omega)
  | landing l => exact nomatch (wishOf_eq_landing_iff.1 hw).symm.trans hno

/-! ## Stages 5 to 8 (R93 to R97) -/

/-- The landing is for service badges and the entry is none (R94). -/
def Reserved (s : State) (e : BadgeEntry) (l : Nat) : Prop :=
  (s.landing l).serviceOnly = true ∧ (e.cls = .staff ∨ e.cls = .visitor)

/-- The landing's zone is locked for the entry (R95). -/
def LockedOut (s : State) (e : BadgeEntry) (l : Nat) : Prop :=
  memSet s.zoneLocks (s.landing l).zone = true ∧ e.cls ≠ .override

/-- The tests of a landing in use that is not the origin, in their order. -/
theorem stages5to8_inUse [Decidable (Reserved s e l)] [Decidable (LockedOut s e l)]
    (hl : l < s.tables.settings.landingCount) (ho : l ≠ origin) :
    s.stages5to8 e origin b l = if Reserved s e l then some .serviceOnly
      else if LockedOut s e l then some .zoneLocked
      else if b = true ∨ s.inGrant e l = true then none
      else if s.clock.isSet = false ∧ (s.landing l).common = false then some .clockUnset
      else some .notPermitted := by
  have hcommon : s.common l = (s.landing l).common := by
    rw [State.common, State.settings, decide_eq_true hl, Bool.true_and]
  rw [State.stages5to8, State.settings, if_neg (Nat.not_le.2 hl), if_neg ho, hcommon]
  exact if_congr (by simp [Reserved]) rfl (if_congr (by simp [LockedOut]) rfl
    (if_congr (by simp) rfl (if_congr (by simp) rfl rfl)))

/-! ## Stages 9 and 10 (R16, R98 to R102) -/

/-- A call of the key's own record is not counted in the queue's length (R100). -/
theorem queueFull_iff : s.queueFull g ((s.tripOfKey k).map (fun t => t.number)) = true ↔
    QueueFull s k g := by
  rw [State.queueFull, decide_eq_true_iff, QueueFull]
  cases s.tripOfKey k <;> simp [Config.queueRoom]

/-- The key's record is a trip to the landing that has not reached a transfer (R99). -/
theorem stage10New_repeats {t : Trip} {via : Option Nat} (ht : s.tripOfKey k = some t)
    (hfinal : t.final = l) (hstate : t.state ≠ .awaitingTransfer) :
    s.stage10New e (s.tripOfKey k) l g via = .repeated t := by
  rw [ht]
  exact if_pos (by simp [hfinal, hstate])

theorem stage10New_creates {via : Option Nat} [Decidable (QueueFull s k g)]
    (hother : ∀ t, s.tripOfKey k = some t → t.final = l → t.state = .awaitingTransfer) :
    s.stage10New e (s.tripOfKey k) l g via =
      if QueueFull s k g then .retry .groupBusy else .create g via e.needs := by
  rw [← if_congr queueFull_iff rfl rfl]
  cases ht : s.tripOfKey k with
  | none => rfl
  | some t => exact if_neg (by simpa using hother t ht)

/-! ### The endings by the route (R98) -/

/-- The route of a presentation to a landing. -/
def routeOf (s : State) (p : Presentation) (k : BadgeKey) (e : BadgeEntry) (l : Nat) : Route :=
  s.route (s.terminalConfig p.terminal).binding (continuedPass s p k e).isSome
    (s.terminalConfig p.terminal).origin l

/-- A route without a group is the ending's reason. -/
theorem lastStages_of_no_group :
    (routeOf s p k e l = .otherBank → lastStages s p k e l = .deny .otherBank) ∧
    (routeOf s p k e l = .noRoute → lastStages s p k e l = .deny .noRoute) ∧
    (routeOf s p k e l = .noService → lastStages s p k e l = .retry .noService) := by
  unfold routeOf lastStages State.stages9to10
  exact ⟨fun h => by rw [h], fun h => by rw [h], fun h => by rw [h]⟩

/-- A pass goes on over one leg when the group's queue has room (R102). -/
theorem lastStages_continuation [Decidable (QueueFull s k g)] {t : Trip}
    (ht : Continues s p k e t) (h : routeOf s p k e l = .oneLeg g) :
    lastStages s p k e l = if QueueFull s k g then .retry .groupBusy else .carry t g e.needs := by
  have htrip : s.tripOfKey k = some t := (waitingPass_eq_some_iff.1 ht.1).1
  have hfull : s.queueFull g (some t.number) = true ↔ QueueFull s k g := by
    rw [← queueFull_iff, htrip, Option.map_some]
  rw [routeOf] at h
  rw [lastStages, State.stages9to10, h, continuedPass_eq_some_iff.2 ht]
  exact if_congr hfull rfl rfl

/-- Without a pass to continue, both kinds of route lead to stage 10 for the key's record (R99 to R101). -/
theorem lastStages_new {via : Option Nat} (hno : continuedPass s p k e = none)
    (h : (routeOf s p k e l = .oneLeg g ∧ via = none) ∨
      ∃ m, routeOf s p k e l = .twoLegs g m ∧ via = some m) :
    lastStages s p k e l = s.stage10New e (s.tripOfKey k) l g via := by
  unfold routeOf at h
  rcases h with ⟨h, rfl⟩ | ⟨m, h, rfl⟩
  · rw [lastStages, State.stages9to10, h, hno]
  · rw [lastStages, State.stages9to10, h]

/-- A continuation has no route over two legs (R16, R17). -/
theorem route_continuation_ne_twoLegs (binding : Binding) (o d m : Nat) :
    s.route binding true o d ≠ .twoLegs g m := by
  cases binding with
  | fixed j =>
    change s.routeFixed j o d ≠ _
    rw [routeFixed_eq]
    split_ifs <;> exact nofun
  | routed =>
    change s.routeOn o d ≠ _
    unfold State.routeOn
    split
    · exact nofun
    · split_ifs <;> exact nofun

end

/-- Settles O14: the request resolved, then the stages' tests in their order (`stages5to8_inUse`), then the ending by
the route. -/
theorem stagesFiveToEightInOrder : Obligations.StagesFiveToEightInOrder := by
  classical
  intro s p k e c origin n wish continues count ending hused
  have h4 : s.stage4 e (continuing s p k e) = none := (mayBeUsed_iff continuing_iff).2 hused
  refine ⟨wishOf_landing, fun h => decideEntry_undefined h4 (wishOf_eq_undefined_iff.2 h),
    fun h hno => decideEntry_unresolved h4 (wishOf_eq_unresolved h hno), fun l hl => ?_⟩
  intro record reserved locked granted
  have hending := decideEntry_landing h4 (wishOf_eq_landing_iff.2 hl)
  have hrefused : ∀ {r}, s.stages5to8 e origin (continuing s p k e) l = some r → ending = .deny r :=
    fun h => hending.trans (by rw [h, Option.elim])
  have hgranted : (continuing s p k e = true ∨ s.inGrant e l = true) ↔ granted :=
    or_congr_left continuing_iff
  have hstages : l < count → l ≠ origin → s.stages5to8 e origin (continuing s p k e) l =
      if reserved then some .serviceOnly else if locked then some .zoneLocked
      else if granted then none
      else if s.clock.isSet = false ∧ record.common = false then some .clockUnset
      else some .notPermitted := fun hcount horigin =>
    (stages5to8_inUse hcount horigin).trans
      (if_congr Iff.rfl rfl (if_congr Iff.rfl rfl (if_congr hgranted rfl rfl)))
  refine ⟨fun hcount => hrefused (if_pos hcount), fun hcount horigin => hrefused ?_,
    fun hcount horigin hr => hrefused ?_, fun hcount horigin hr hz => hrefused ?_,
    fun hcount horigin hr hz hg => ?_, fun hcount horigin hr hz hg b hb => ?_⟩
  · exact (if_neg (Nat.not_le.2 hcount)).trans (if_pos horigin)
  · rw [hstages hcount horigin, if_pos hr]
  · rw [hstages hcount horigin, if_neg hr, if_pos hz]
  · rw [← apply_ite Ending.deny]
    refine hrefused ?_
    rw [hstages hcount horigin, if_neg hr, if_neg hz, if_neg hg, ← apply_ite some]
  · have hlast : ending = lastStages s p k e l := by
      refine hending.trans ?_
      rw [hstages hcount horigin, if_neg hr, if_neg hz, if_pos hg, Option.elim]
    obtain rfl : b = continuing s p k e := Bool.eq_iff_iff.2 (hb.trans continuing_iff.symm)
    rw [hlast]
    obtain ⟨hotherBank, hnoRoute, hnoService⟩ := lastStages_of_no_group (s := s) (p := p) (k := k)
      (e := e) (l := l)
    refine ⟨hotherBank, hnoRoute, hnoService,
      fun t g ht hroute => ?_, fun g via hno hroute => ?_, fun hyes g m => ?_⟩
    · rw [lastStages_continuation ht hroute]
      exact ⟨fun hfull => if_pos hfull, fun hroom => if_neg hroom⟩
    · have hnone : continuedPass s p k e = none := Option.eq_none_iff_forall_ne_some.2
        fun t ht => hno ⟨t, continuedPass_eq_some_iff.1 ht⟩
      rw [lastStages_new hnone hroute]
      refine ⟨fun t ht hfinal hstate => stage10New_repeats ht hfinal hstate, fun hother => ?_⟩
      rw [stage10New_creates hother]
      exact ⟨fun hfull => if_pos hfull, fun hroom => if_neg hroom⟩
    · rw [hb.2 hyes]
      exact route_continuation_ne_twoLegs _ _ _ _

end Sys2Proof.Safety
end

section
/-! SUPPORT. A trip that is created and a pass that is carried on: the numbers and tags that are free, what supersession leaves, and the proofs of O18 and O19 (R101, R102, R109, R117, R119, R122, R126, R128). -/

namespace Sys2Proof.Safety

open Sys2Proof.Machine

section
variable {s t : State}

/-! ## Free numbers and tags (R109, R128) -/

theorem tagHeld_iff_not_tagFree (tag : Nat) : s.tagHeld tag = true ↔ ¬ TagFree s tag := by
  rw [← Bool.not_eq_false, not_iff_not]
  simp [State.tagHeld, TagFree, mem_groupNumbers]

/-- No group has a call in `t` that it had not in `s`. -/
def NoNewCalls (s t : State) : Prop :=
  ∀ g, (t.group g).queue ⊆ (s.group g).queue ∧ (t.group g).outstanding ⊆ (s.group g).outstanding

theorem NoNewCalls.of_groups (h : t.groups = s.groups) : NoNewCalls s t := by
  intro g
  rw [State.group, State.group, h]
  exact ⟨List.Subset.refl _, List.Subset.refl _⟩

theorem NoNewCalls.setGroup {g : Nat} {v : GroupState} (hqueue : v.queue ⊆ (s.group g).queue)
    (houtstanding : v.outstanding ⊆ (s.group g).outstanding) : NoNewCalls s (s.setGroup g v) := by
  intro h
  rw [setGroup_group]
  split_ifs with hg
  · exact hg ▸ ⟨hqueue, houtstanding⟩
  · exact ⟨List.Subset.refl _, List.Subset.refl _⟩

/-- A tag stays free when no trip and no call joins. -/
theorem TagFree.mono {tag : Nat} (h : TagFree s tag) (htrips : t.trips ⊆ s.trips)
    (hcalls : NoNewCalls s t) : TagFree t tag := by
  obtain ⟨hsettled, hgroups⟩ := h
  refine ⟨fun x hx => hsettled x (htrips hx), fun g h1 h6 => ?_⟩
  obtain ⟨hqueue, houtstanding⟩ := hgroups g h1 h6
  exact ⟨fun c hc => hqueue c ((hcalls g).1 hc), fun o ho => houtstanding o ((hcalls g).2 ho)⟩

/-- The next tag is the first after the last issued that is free (R128). -/
theorem nextTag_allocated (h : ∃ tag, 1 ≤ tag ∧ tag ≤ 4095 ∧ TagFree s tag) :
    Allocated 4095 s.lastTag (fun m => ¬ TagFree s m) s.nextTag := by
  obtain ⟨tag, h1, h2, hfree⟩ := h
  have hheld : s.tagHeld tag = false :=
    Bool.eq_false_iff.2 fun hheld => (tagHeld_iff_not_tagFree tag).1 hheld hfree
  simp only [← tagHeld_iff_not_tagFree]
  exact firstFree_allocated s.tagHeld 4095 s.lastTag ⟨tag, h1, h2, hheld⟩

/-- The next trip number is the first after the last issued that no record has (R109): a list within its capacity
cannot hold them all. -/
theorem nextTrip_allocated (h : s.trips.length ≤ 512) :
    Allocated 65535 s.lastTrip (fun m => ∃ x ∈ s.trips, x.number = m) s.nextTrip := by
  have hheld : ∀ m, s.tripHeld m = true ↔ ∃ x ∈ s.trips, x.number = m := by
    simp [State.tripHeld]
  have hcard : (s.trips.map (fun x => x.number)).toFinset.card < (Finset.Icc 1 65535).card := by
    refine (List.toFinset_card_le _).trans_lt ?_
    rw [List.length_map, Nat.card_Icc]
    omega
  obtain ⟨m, hm, hfree⟩ := Finset.exists_mem_notMem_of_card_lt_card hcard
  rw [List.mem_toFinset, List.mem_map, ← hheld, Bool.not_eq_true] at hfree
  obtain ⟨h1, h2⟩ := Finset.mem_Icc.1 hm
  simp only [← hheld]
  exact firstFree_allocated s.tripHeld 65535 s.lastTrip ⟨m, h1, h2, hfree⟩

/-! ## Supersession and room (R119, R122) -/

/-- A superseded record leaves the Trip List, whatever its state (R119). -/
theorem supersede_trips (s : State) (x : Trip) :
    (s.supersede x).trips = s.trips.filter (fun y => y.number ≠ x.number) := by
  unfold State.supersede
  dsimp only
  split
  · rw [State.endAwait_frame]; rfl
  · rw [State.endAwait_frame, State.placeCancel_frame]; rfl
  · rw [State.placeCancel_frame]; rfl
  · rw [State.placeCancel_frame]; rfl

theorem supersede_noNewCalls (s : State) (x : Trip) : NoNewCalls s (s.supersede x) := by
  unfold State.supersede
  dsimp only
  split
  · rw [State.endAwait_frame]
    exact NoNewCalls.setGroup (List.filter_subset_self _) (List.Subset.refl _)
  · rw [State.endAwait_frame, State.placeCancel_frame]
    exact NoNewCalls.setGroup (List.Subset.refl _) (List.filter_subset_self _)
  · exact NoNewCalls.of_groups (by rw [State.placeCancel_frame]; rfl)
  · exact NoNewCalls.of_groups (by rw [State.placeCancel_frame]; rfl)

theorem supersededKey_frame (s : State) (k : BadgeKey) :
    supersededKey s k = { s with
      groups := (supersededKey s k).groups, cancels := (supersededKey s k).cancels
      trips := (supersededKey s k).trips, answers := (supersededKey s k).answers
      terminals := (supersededKey s k).terminals, events := (supersededKey s k).events
      notices := (supersededKey s k).notices } := by
  unfold supersededKey
  split
  · exact State.supersede_frame _ _
  · rfl

/-- Superseding a key's record brings no trip. -/
theorem supersededKey_trips_sublist (s : State) (k : BadgeKey) :
    (supersededKey s k).trips.Sublist s.trips := by
  unfold supersededKey
  split
  · rw [supersede_trips]
    exact List.filter_sublist
  · exact List.Sublist.refl _

theorem supersededKey_noNewCalls (s : State) (k : BadgeKey) : NoNewCalls s (supersededKey s k) := by
  unfold supersededKey
  split
  · exact supersede_noNewCalls s _
  · exact NoNewCalls.of_groups rfl

theorem makeRoom_of_room (h : s.trips.length < 512) : s.makeRoom = s := if_neg (Nat.not_le.2 h)

theorem makeRoom_of_full (h : 512 ≤ s.trips.length) :
    s.makeRoom = { s with trips := s.trips.eraseP Trip.settled } := if_pos h

theorem makeRoom_trips_sublist (s : State) : s.makeRoom.trips.Sublist s.trips := by
  rcases Nat.lt_or_ge s.trips.length 512 with h | h
  · rw [makeRoom_of_room h]
  · rw [makeRoom_of_full h]
    exact List.eraseP_sublist

/-- A full list gives up its oldest settled record (R122). -/
theorem roomed_makeRoom (s : State) : Roomed s.trips s.makeRoom.trips := by
  refine ⟨fun h => by rw [makeRoom_of_room h],
    fun older x younger hfull hsplit hsettled holder => ?_⟩
  rw [makeRoom_of_full hfull]
  change s.trips.eraseP Trip.settled = _
  rw [hsplit, List.eraseP_append_right _ (by simpa using holder), List.eraseP_cons_of_pos hsettled]

/-- What carrying a pass on leaves: its new record, its call, its tag and the terminal that awaits it (R102). -/
theorem carryOn_eq (s : State) (terminal g tag : Nat) (x : Trip) (needs : Bool)
    (htag : (s.removeTrip x.number).nextTag = tag) :
    s.carryOn terminal x g needs =
      { s.setTerminal terminal { s.terminal terminal with service := .awaiting x.number } with
        trips := s.trips.map (fun y => if y.number = x.number then carriedWith terminal g tag y else y)
        groups := (s.queueCall g (carriedCall g tag x needs)).groups
        lastTag := tag } := by
  rw [← htag, ← nextTag_carried s terminal g x, ← carryOn_trips s terminal g x needs]
  rfl

end

/-- Settles O18: the state with the key's record superseded and room made, and in it the next number and tag. -/
theorem admissionCreatesATrip : Obligations.AdmissionCreatesATrip := by
  intro s p k l g via needs hdecision hlength ⟨free, h1, h2, hfree⟩ origin u
  obtain ⟨t, ht, hframe, hraised, -⟩ := admission_of_ending hdecision rfl
  have hcreated : s.applyEnding p.terminal ⟨some k, some l, .create g via needs⟩ =
    s.createTrip p.terminal k l g via needs := rfl
  rw [hcreated, createTrip_eq, State.makeRoom_frame] at hframe hraised
  have hu : supersededKey s k = u := rfl
  have hlater := supersededKey_frame s k
  have htrips := supersededKey_trips_sublist s k
  have hcalls := supersededKey_noNewCalls s k
  have hkept := makeRoom_trips_sublist (supersededKey s k)
  have hroomed := roomed_makeRoom (supersededKey s k)
  rw [hu] at hframe hraised hlater htrips hcalls hkept hroomed
  clear_value u
  generalize u.makeRoom.trips = kept at *
  obtain ⟨groups, cancels, trips, answers, terminals, events, notices, rfl⟩ :
      ∃ groups cancels trips answers terminals events notices, u = { s with
        groups := groups, cancels := cancels, trips := trips, answers := answers
        terminals := terminals, events := events, notices := notices } :=
    ⟨_, _, _, _, _, _, _, hlater⟩
  have hsub := hkept.trans htrips
  refine ⟨t, _, _, kept, ht, hroomed,
    nextTrip_allocated (s := { s with groups := groups, trips := kept }) (hsub.length_le.trans hlength),
    nextTag_allocated (s := { s with groups := groups, trips := kept })
      ⟨free, h1, h2, hfree.mono hsub.subset hcalls⟩, hframe, ?_⟩
  exact hraised.of_start (fun _ => rfl) rfl rfl

/-- Settles O19: the pass is the key's record, which waits at the terminal's landing, and its old tag is free. -/
theorem continuationCarriesThePass : Obligations.ContinuationCarriesThePass := by
  intro s p k l g x needs hdecision ⟨free, h1, h2, hfree⟩
  obtain ⟨k', e, l', hkey, hdestination, hwish, hfits⟩ :=
    decision_fits (s := s) (p := p) (by simp [hdecision])
  rw [hdecision] at hkey hdestination hfits
  obtain rfl := Option.some.inj hkey
  obtain rfl := Option.some.inj hdestination
  obtain ⟨hpass, hfinal⟩ : Continues s p k e x := hfits
  obtain rfl : l = x.final := Option.some.inj (hwish.symm.trans hfinal)
  obtain ⟨htrip, hwaits⟩ := waitingPass_eq_some_iff.1 hpass
  obtain ⟨hstate, htransfer⟩ : x.state = .awaitingTransfer ∧
      x.transfer = some (s.terminalConfig p.terminal).origin := by
    simpa [Trip.waitsAt] using hwaits
  refine ⟨htrip, hstate, htransfer, rfl, ?_⟩
  obtain ⟨tag, htag⟩ : ∃ tag, (s.removeTrip x.number).nextTag = tag := ⟨_, rfl⟩
  have hleft : TagFree (s.removeTrip x.number) free :=
    hfree.mono (List.filter_subset_self _) (NoNewCalls.of_groups rfl)
  have hfresh := nextTag_allocated ⟨free, h1, h2, hleft⟩
  rw [htag] at hfresh
  have hcarried : s.applyEnding p.terminal ⟨some k, some x.final, .carry x g needs⟩ = _ :=
    carryOn_eq s p.terminal g tag x needs htag
  rw [carriedCall, htransfer] at hcarried
  obtain ⟨t, ht, hframe, hraised, -⟩ := admission_of_ending hdecision hcarried
  exact ⟨t, tag, ht, hfresh, hframe, hraised.of_start (fun _ => rfl) rfl rfl⟩

end Sys2Proof.Safety
end

section
/-! SUPPORT. What supersession does with a record's call and with the terminal that awaits it, and the proof of O22 (R119, R139, R181, R182). -/

namespace Sys2Proof.Safety

open Sys2Proof.Machine

/-! ## The Cancel List (R139) -/

section
variable {s : State} {c : Cancel}

/-- A list that holds the entry, or has room for it, lists it and raises nothing. -/
theorem placeCancel_lists (h : c ∈ s.cancels ∨ s.cancels.length < 32) :
    s.placeCancel c = { s with cancels := listed s.cancels c } := by
  rcases s.placeCancel_cases c with ⟨hmem, e⟩ | ⟨hnew, hroom, e⟩ | ⟨hnew, hfull, -⟩
  · rw [e, listed, if_pos (.inl hmem)]
  · have hkept : ¬ (c ∈ s.cancels ∨ 32 ≤ s.cancels.length) := not_or.2 ⟨hnew, Nat.not_le.2 hroom⟩
    rw [e, listed, if_neg hkept]
  · exact absurd (h.resolve_left hnew) (Nat.not_lt.2 hfull)

/-- A full list that does not hold the entry loses it. -/
theorem placeCancel_loses (hnew : c ∉ s.cancels) (hfull : 32 ≤ s.cancels.length) :
    s.placeCancel c = s.raise .cancelLost := by
  have hroom : ¬ s.cancels.length < Config.cancelRoom := Nat.not_lt.2 hfull
  rw [State.placeCancel, if_neg hnew, if_neg hroom]

theorem placeCancel_cancels (s : State) (c : Cancel) :
    (s.placeCancel c).cancels = listed s.cancels c := by
  by_cases h : c ∈ s.cancels ∨ s.cancels.length < 32
  · rw [placeCancel_lists h]
  · obtain ⟨hnew, hfull⟩ := not_or.1 h
    rw [placeCancel_loses hnew (Nat.not_lt.1 hfull), listed, if_pos (.inr (Nat.not_lt.1 hfull))]
    rfl

end

/-! ## The withdrawal of a record's call (R119) -/

/-- The state with the call of a record that is superseded withdrawn by the means its state allows, before its
terminal is answered and the record leaves. -/
def callWithdrawn (s : State) (x : Trip) : State :=
  match x.state with
  | .queued => s.removeQueued x.group x.number
  | .called => (s.removeOutstanding x.group x.tag).placeCancel ⟨x.group, x.tag⟩
  | .assigned | .awaitingTransfer => s.placeCancel ⟨x.group, x.tag⟩

/-- The answer of a record that is superseded (R105, R119). -/
def supersededAnswer (x : Trip) : Answer := x.answer .denied (some .superseded) none none

section
variable (s : State) (x : Trip)

theorem callWithdrawn_frame : callWithdrawn s x = { s with
    groups := (callWithdrawn s x).groups, cancels := (callWithdrawn s x).cancels
    events := (callWithdrawn s x).events, notices := (callWithdrawn s x).notices } := by
  unfold callWithdrawn
  split
  · rfl
  · rw [State.placeCancel_frame]; rfl
  · rw [State.placeCancel_frame]
  · rw [State.placeCancel_frame]

theorem callWithdrawn_answers : (callWithdrawn s x).answers = s.answers := by
  rw [callWithdrawn_frame]

theorem callWithdrawn_terminals : (callWithdrawn s x).terminals = s.terminals := by
  rw [callWithdrawn_frame]

theorem callWithdrawn_terminal (u : Nat) : (callWithdrawn s x).terminal u = s.terminal u := by
  unfold State.terminal
  rw [callWithdrawn_terminals]

theorem callWithdrawn_awaits : Awaits (callWithdrawn s x) x ↔ Awaits s x := by
  rw [Awaits, callWithdrawn_terminal]

theorem callWithdrawn_group (g : Nat) : (callWithdrawn s x).group g =
    if g ≠ x.group then s.group g
    else match x.state with
      | .queued => { s.group g with
          queue := (s.group g).queue.filter (fun c => c.trip ≠ x.number) }
      | .called => { s.group g with
          outstanding := (s.group g).outstanding.filter (fun o => o.call.tag ≠ x.tag) }
      | .assigned | .awaitingTransfer => s.group g := by
  have hplaced : ∀ (u : State) c, (u.placeCancel c).group g = u.group g := fun u c => by
    rw [State.placeCancel_frame]; rfl
  unfold callWithdrawn
  by_cases hg : g = x.group
  · subst hg
    rw [if_neg (not_not.2 rfl)]
    split
    · exact s.setGroup_group_same _ _
    · exact (hplaced _ _).trans (s.setGroup_group_same _ _)
    all_goals exact hplaced _ _
  · rw [if_pos hg]
    split
    · exact State.setGroup_group_other _ _ (Ne.symm hg)
    · exact (hplaced _ _).trans (State.setGroup_group_other _ _ (Ne.symm hg))
    all_goals exact hplaced _ _

theorem callWithdrawn_cancels : (callWithdrawn s x).cancels =
    if x.state = .queued then s.cancels else listed s.cancels ⟨x.group, x.tag⟩ := by
  unfold callWithdrawn
  split
  case h_1 hx => rw [if_pos hx]; rfl
  case h_2 hx | h_3 hx | h_4 hx =>
    rw [if_neg (by simp [hx])]
    exact placeCancel_cancels _ _

variable {s x}

/-- A queued call leaves no cancel, and a cancel that is listed raises nothing. -/
theorem callWithdrawn_quiet (h : x.state = .queued ∨
    (⟨x.group, x.tag⟩ : Cancel) ∈ s.cancels ∨ s.cancels.length < 32) :
    (callWithdrawn s x).events = s.events ∧ (callWithdrawn s x).notices = s.notices := by
  unfold callWithdrawn
  split
  case h_1 => exact ⟨rfl, rfl⟩
  case h_2 hc =>
    rw [placeCancel_lists (s := s.removeOutstanding x.group x.tag) (h.resolve_left (by simp [hc]))]
    exact ⟨rfl, rfl⟩
  case h_3 hs | h_4 hs =>
    rw [placeCancel_lists (h.resolve_left (by simp [hs]))]
    exact ⟨rfl, rfl⟩

/-- A cancel that finds no room is lost. -/
theorem callWithdrawn_loses (hcall : x.state ≠ .queued)
    (hnew : (⟨x.group, x.tag⟩ : Cancel) ∉ s.cancels) (hfull : 32 ≤ s.cancels.length) :
    Counted s (callWithdrawn s x) .cancelLost := by
  unfold callWithdrawn
  split
  case h_1 hq => exact absurd hq hcall
  case h_2 =>
    rw [placeCancel_loses (s := s.removeOutstanding x.group x.tag) hnew hfull]
    exact counted_raise (s.removeOutstanding x.group x.tag) .cancelLost
  case h_3 | h_4 =>
    rw [placeCancel_loses hnew hfull]
    exact counted_raise s .cancelLost

end

/-! ## Supersession (R119) -/

section
variable {s : State} {x : Trip}

/-- A record with a call is withdrawn, its terminal answered, and it leaves. -/
theorem supersede_of_call (h : TripState.hasCall x.state) :
    s.supersede x = ((callWithdrawn s x).endAwait x (supersededAnswer x)).removeTrip x.number := by
  unfold State.supersede callWithdrawn
  rcases h with h | h <;> rw [h] <;> rfl

/-- A settled record is withdrawn and leaves. -/
theorem supersede_of_settled (h : ¬ TripState.hasCall x.state) :
    s.supersede x = (callWithdrawn s x).removeTrip x.number := by
  unfold State.supersede callWithdrawn
  cases hx : x.state with
  | queued | called => exact absurd (by simp [TripState.hasCall, hx]) h
  | assigned | awaitingTransfer => rfl

/-- But for the record, the answers and the terminals, supersession is the withdrawal of the call. -/
theorem supersede_of_withdrawn (s : State) (x : Trip) : s.supersede x = { callWithdrawn s x with
    trips := s.trips.filter (fun y => y.number ≠ x.number), answers := (s.supersede x).answers
    terminals := (s.supersede x).terminals } := by
  have htrips := supersede_trips s x
  by_cases h : TripState.hasCall x.state
  · rw [← htrips, supersede_of_call h, State.endAwait_frame]; rfl
  · rw [← htrips, supersede_of_settled h]; rfl

/-- The terminal that awaits a record with a call is answered DENY SUPERSEDED and becomes IDLE. -/
theorem supersede_awaited (h : TripState.hasCall x.state) (haw : Awaits s x) :
    (s.supersede x).answers = s.answers ++ [supersededAnswer x] ∧
      ∀ u, (s.supersede x).terminal u =
        if u = x.terminal then { s.terminal u with service := .idle } else s.terminal u := by
  have hdeny : (supersededAnswer x).verdict ≠ .admitted := by simp [supersededAnswer, Trip.answer]
  have hawaits := (callWithdrawn_awaits s x).2 haw
  rw [supersede_of_call h]
  constructor
  · exact (endAwait_answers _ x _ hdeny).trans (by rw [callWithdrawn_answers, if_pos hawaits])
  · intro u
    refine (idled_endAwait (callWithdrawn s x) x _ hdeny u).trans ?_
    simp only [callWithdrawn_terminal]
    exact if_congr (and_iff_left hawaits) rfl rfl

/-- Where no terminal awaits the record, or the record has no call, no terminal is answered. -/
theorem supersede_not_awaited (h : ¬ (TripState.hasCall x.state ∧ Awaits s x)) :
    (s.supersede x).answers = s.answers ∧ (s.supersede x).terminals = s.terminals := by
  have hsame : s.supersede x = (callWithdrawn s x).removeTrip x.number := by
    by_cases hcall : TripState.hasCall x.state
    · have haw : ¬ Awaits (callWithdrawn s x) x := fun haw =>
        h ⟨hcall, (callWithdrawn_awaits s x).1 haw⟩
      rw [supersede_of_call hcall, State.endAwait_none _ _ _ haw]
    · exact supersede_of_settled hcall
  rw [hsame]
  exact ⟨callWithdrawn_answers s x, callWithdrawn_terminals s x⟩

end

/-- Settles O22: the call is withdrawn (`callWithdrawn`), and then the terminal answered and the record removed. -/
theorem supersessionWithdrawsTheCall : Obligations.SupersessionWithdrawsTheCall := by
  intro s x t awaited
  have hframe : t = _ := State.supersede_frame s x
  rw [show t.trips = _ from supersede_trips s x] at hframe
  have ht : t = { callWithdrawn s x with
      trips := s.trips.filter (fun y => y.number ≠ x.number), answers := t.answers
      terminals := t.terminals } := supersede_of_withdrawn s x
  refine ⟨hframe, fun g => ?_, ?_, fun ⟨hcall, haw⟩ => supersede_awaited hcall haw,
    supersede_not_awaited, fun h => ?_, fun hcall hnew hfull => ?_⟩
  · rw [ht]
    exact callWithdrawn_group s x g
  · rw [ht]
    exact callWithdrawn_cancels s x
  · rw [ht]
    exact callWithdrawn_quiet h
  · rw [ht]
    exact callWithdrawn_loses hcall hnew hfull

end Sys2Proof.Safety
end

section
/-! SUPPORT. The keys of the Trip List: every command but PRESENT_REPLY brings none (R29, R107, R114, R116, R121, R156). -/

namespace Sys2Proof.Safety

open Sys2Proof.Machine

/-! ## The keys of the Trip List -/

/-- The keys of the trip records, oldest record first. -/
def tripKeys (s : State) : List BadgeKey := s.trips.map (fun x => x.key)

/-- From `s` to `t` records may have left the Trip List or advanced in their places, and none has come. -/
def NoNewKeys (s t : State) : Prop := (tripKeys t).Sublist (tripKeys s)

section
variable {s t u : State}

theorem OneTripPerKey.of_noNewKeys (h : OneTripPerKey s) (hkeys : NoNewKeys s t) : OneTripPerKey t :=
  h.sublist hkeys

theorem NoNewKeys.refl (s : State) : NoNewKeys s s := List.Sublist.refl _

theorem NoNewKeys.trans (h : NoNewKeys s t) (h' : NoNewKeys t u) : NoNewKeys s u :=
  List.Sublist.trans h' h

theorem NoNewKeys.of_sublist (h : t.trips.Sublist s.trips) : NoNewKeys s t := h.map _

theorem NoNewKeys.of_eq (h : t.trips = s.trips) : NoNewKeys s t :=
  .of_sublist (h ▸ List.Sublist.refl _)

/-- Records that change in their places keep their keys. -/
theorem NoNewKeys.of_map {n : Nat} {f : Trip → Trip} (hf : ∀ x, (f x).key = x.key)
    (h : t.trips = s.trips.map (fun x => if x.number = n then f x else x)) : NoNewKeys s t := by
  have hkeys : tripKeys t = tripKeys s := by
    rw [tripKeys, h, List.map_map]
    refine List.map_congr_left fun x _ => ?_
    rw [Function.comp_apply]
    split_ifs
    · exact hf x
    · rfl
  rw [NoNewKeys, hkeys]

end

/-! ## Shared operations that leave the Trip List -/

section
variable (s : State)

@[simp] theorem placeCancel_trips (c : Cancel) : (s.placeCancel c).trips = s.trips := by
  rw [State.placeCancel_frame]

@[simp] theorem endAwait_trips (x : Trip) (a : Answer) : (s.endAwait x a).trips = s.trips := by
  rw [State.endAwait_frame]

@[simp] theorem placeAnswer_trips (a : Answer) : (s.placeAnswer a).trips = s.trips := by
  rw [State.placeAnswer_frame]

@[simp] theorem deny_trips (u : Nat) (r : Reason) (d : Option Nat) :
    (s.deny u r d).trips = s.trips := by
  rw [State.deny_frame]

@[simp] theorem queueReport_trips (r : Report) : (s.queueReport r).trips = s.trips := by
  rw [State.queueReport_frame]

@[simp] theorem handOn_trips (f : Frame) : (s.handOn f).trips = s.trips := by
  rw [State.handOn, State.signOfLifeFrom_frame]

@[simp] theorem miss_trips (x : Exchange) : (s.miss x).trips = s.trips := by
  rw [State.miss_frame]

@[simp] theorem goodReply_trips (x : Exchange) : (s.goodReply x).trips = s.trips := by
  rw [State.goodReply_frame]

@[simp] theorem raiseLine_trips (c : LineConfig) (k : EventKind) :
    (s.raiseLine c k).trips = s.trips := by
  rw [State.raiseLine_frame]

@[simp] theorem followActive_trips (k : Nat) (was : Bool) :
    (s.followActive k was).trips = s.trips := by
  rw [State.followActive_frame]

theorem applyTrigger_trips (k : Nat) (edge : Bool) : (s.applyTrigger k edge).trips = s.trips := by
  unfold State.applyTrigger
  dsimp only
  split_ifs <;> simp

theorem offerToNetwork_trips (kind : Nat) (frame : List Byte) :
    (s.offerToNetwork kind frame).trips = s.trips := by
  unfold State.offerToNetwork
  split_ifs <;> rfl

theorem endSave_trips : s.endSave.trips = s.trips := by
  unfold State.endSave
  split <;> rfl

theorem setStandby_trips (b : PolicyBank) : (s.setStandby b).trips = s.trips := by
  rw [s.setStandby_frame b]

theorem configureTerminal_trips (u : Nat) (c : TerminalConfig) :
    (s.configureTerminal u c).trips = s.trips := by
  unfold State.configureTerminal
  split_ifs <;> rfl

theorem eraseTerminal_trips (u : Nat) : (s.eraseTerminal u).trips = s.trips := by
  unfold State.eraseTerminal
  split_ifs <;> rfl

theorem resumeGroup_trips (g : Nat) : (s.resumeGroup g).trips = s.trips := by
  unfold State.resumeGroup
  split_ifs <;> rfl

/-! ## Shared operations that only take records out -/

theorem formMode_noNewKeys : NoNewKeys s s.formMode := by
  rcases s.formMode_cases with ⟨-, e⟩ | ⟨-, -, e⟩ | ⟨-, -, e⟩ <;> rw [e]
  · exact .refl s
  · rw [State.recallEntry_frame]
    exact List.nil_sublist _
  · exact .of_eq rfl

theorem acceptLevel_noNewKeys (k : Nat) (v : Level) : NoNewKeys s (s.acceptLevel k v) :=
  .trans (.of_eq (by simp)) (formMode_noNewKeys _)

theorem startDebounce_noNewKeys (k : Nat) : NoNewKeys s (s.startDebounce k) := by
  unfold State.startDebounce
  split_ifs
  · exact acceptLevel_noNewKeys s k _
  · exact .of_eq rfl

theorem watchInput_noNewKeys (k : Nat) (v : Level) : NoNewKeys s (s.watchInput k v) := by
  unfold State.watchInput
  split_ifs
  · exact .of_eq rfl
  · exact startDebounce_noNewKeys s k

theorem foldl_startDebounce_noNewKeys (ks : List Nat) :
    NoNewKeys s (ks.foldl State.startDebounce s) := by
  induction ks generalizing s with
  | nil => exact .refl s
  | cons k ks ih => exact (startDebounce_noNewKeys s k).trans (ih _)

theorem applyLine_noNewKeys (k : Nat) (c : LineConfig) : NoNewKeys s (s.applyLine k c) :=
  .trans (.of_eq (by simp [State.applyPolarity, applyTrigger_trips])) (formMode_noNewKeys _)

theorem unlatch_noNewKeys (k : Nat) : NoNewKeys s (s.unlatch k) :=
  .trans (.of_eq (by simp)) (formMode_noNewKeys _)

theorem removeTrip_noNewKeys (n : Nat) : NoNewKeys s (s.removeTrip n) :=
  .of_sublist List.filter_sublist

theorem dropPass_noNewKeys (k : BadgeKey) : NoNewKeys s (s.dropPass k) :=
  .of_sublist List.filter_sublist

theorem failTrip_noNewKeys (n : Nat) (r : Reason) : NoNewKeys s (s.failTrip n r) := by
  refine .of_sublist ?_
  rw [State.failTrip_trips]
  exact List.filter_sublist

theorem withdrawQueue_noNewKeys (g : Nat) : NoNewKeys s (s.withdrawQueue g) := by
  refine .of_sublist ?_
  rw [State.withdrawQueue_trips]
  exact List.filter_sublist

theorem holdGroup_noNewKeys (g : Nat) : NoNewKeys s (s.holdGroup g) := by
  unfold State.holdGroup
  split_ifs
  · exact .refl s
  · exact .trans (.of_eq rfl) (withdrawQueue_noNewKeys _ g)

/-! ## The Call Exchange (07) -/

theorem advance_key (car : Nat) (x : Trip) : (advance s car x).key = x.key := by
  unfold advance
  split_ifs <;> rfl

theorem assignTrip_noNewKeys (x : Trip) (car : Nat) : NoNewKeys s (s.assignTrip x car) := by
  have hanswered : NoNewKeys s ((advanced s x car).endAwait x (admitAnswer x car)) :=
    .of_map (advance_key s car) ((endAwait_trips _ _ _).trans (advanced_trips s x car))
  rw [assignTrip_eq]
  split_ifs
  · exact hanswered.trans (removeTrip_noNewKeys _ _)
  · exact hanswered

theorem assignCall_noNewKeys (g : Nat) (o : Outstanding) (car : Nat) :
    NoNewKeys s (s.assignCall g o car) := by
  unfold State.assignCall
  dsimp only
  split
  · exact .of_eq rfl
  · exact assignTrip_noNewKeys (s.removeOutstanding g o.call.tag) _ car

theorem takeAssign_noNewKeys (g tag car : Nat) : NoNewKeys s (s.takeAssign g tag car) := by
  unfold State.takeAssign
  split
  · exact .refl s
  · split
    · exact assignCall_noNewKeys s g _ car
    · split
      · exact .refl s
      · exact .of_eq (placeCancel_trips _ _)

theorem takeDecline_noNewKeys (g tag code : Nat) : NoNewKeys s (s.takeDecline g tag code) := by
  unfold State.takeDecline
  split
  · exact .refl s
  · exact failTrip_noNewKeys (s.removeOutstanding g tag) _ _

theorem raiseStreak_noNewKeys (g : Nat) : NoNewKeys s (s.raiseStreak g) := by
  unfold State.raiseStreak
  dsimp only
  split_ifs
  · exact .trans (.of_eq rfl) (withdrawQueue_noNewKeys _ g)
  · exact .of_eq rfl

theorem expireTrip_noNewKeys (n : Nat) (st : TripState) : NoNewKeys s (s.expireTrip n st) := by
  unfold State.expireTrip
  split
  · exact .refl s
  · split
    · exact .refl s
    · split
      · exact removeTrip_noNewKeys (s.reach _) n
      · exact .refl s

/-! ## Commands -/

/-- Whatever state the outcome leads to has no key in its Trip List that `s` has not. -/
def BringsNoKey (s : State) : Host.Outcome State Fault Refusal → Prop := Leaves (NoNewKeys s)

theorem execReplyTimeExpiry_bringsNoKey : BringsNoKey s (execReplyTimeExpiry s) := by
  refine leaves_next ?_
  split
  · exact .refl s
  · split
    · exact .refl s
    · exact .of_eq (miss_trips _ _)

theorem execPollReply_bringsNoKey (r : Reception) : BringsNoKey s (execPollReply r s) := by
  refine leaves_next ?_
  split
  · exact .refl s
  · dsimp only
    split_ifs
    · exact .refl s
    · exact .of_eq (goodReply_trips _ _)
    · exact .of_eq ((offerToNetwork_trips _ _ _).trans (goodReply_trips _ _))

theorem endOnT_trips (r : Reception) : (s.endOnT r).trips = s.trips := by
  unfold State.endOnT
  dsimp only
  split
  · split_ifs <;> rfl
  · split_ifs
    · rfl
    · rfl
    · rfl
    · exact miss_trips _ _

theorem endOnG_trips (r : Reception) : (s.endOnG r).trips = s.trips := by
  unfold State.endOnG
  split
  · rfl
  · split
    · rfl
    · exact handOn_trips _ _
    all_goals rfl

theorem execReceptionEnd_bringsNoKey (port : Port) (r : Reception) :
    BringsNoKey s (execReceptionEnd port r s) := by
  refine leaves_next ?_
  cases port <;> dsimp only <;> split
  · exact .of_eq (endOnT_trips s r)
  · exact .refl s
  · exact .of_eq (endOnG_trips s r)
  · exact .refl s

theorem execReceiveMreq_bringsNoKey (r : Reception) : BringsNoKey s (execReceiveMreq r s) := by
  refine leaves_next ?_
  split
  · exact .refl s
  · dsimp only
    split <;> exact .of_eq (handOn_trips _ _)

theorem execReceiveGToTRelay_bringsNoKey (r : Reception) :
    BringsNoKey s (execReceiveGToTRelay r s) := by
  refine leaves_next ?_
  split
  · exact .refl s
  · dsimp only
    split_ifs <;> exact .of_eq (handOn_trips _ _)

theorem execReceiveAssign_bringsNoKey (r : Reception) : BringsNoKey s (execReceiveAssign r s) := by
  refine leaves_next ?_
  split
  · exact .refl s
  · next f _ =>
    have hon : NoNewKeys s (s.handOn f) := .of_eq (handOn_trips s f)
    dsimp only
    split
    · exact hon
    · split
      · exact hon
      · exact hon.trans (takeAssign_noNewKeys _ _ _ _)

theorem execReceiveDecline_bringsNoKey (r : Reception) :
    BringsNoKey s (execReceiveDecline r s) := by
  refine leaves_next ?_
  split
  · exact .refl s
  · next f _ =>
    have hon : NoNewKeys s (s.handOn f) := .of_eq (handOn_trips s f)
    dsimp only
    split
    · exact hon
    · split
      · exact hon
      · exact hon.trans (takeDecline_noNewKeys _ _ _ _)

theorem execAnswerTimeout_bringsNoKey (g tag : Nat) : BringsNoKey s (execAnswerTimeout g tag s) := by
  refine leaves_next ?_
  split
  · exact .refl s
  · next o _ =>
    split
    · have hplaced : NoNewKeys s
          (((s.reach o.deadline).removeOutstanding g tag).placeCancel ⟨g, tag⟩) :=
        .of_eq (placeCancel_trips _ _)
      exact (hplaced.trans (failTrip_noNewKeys _ _ _)).trans (raiseStreak_noNewKeys _ g)
    · exact .refl s

/-- The trip of the call that is sent becomes CALLED in its place (R131). -/
theorem execSendCall_bringsNoKey : BringsNoKey s (execSendCall s) := by
  refine leaves_next ?_
  split
  · split
    · exact .refl s
    · next c _ _ =>
      dsimp only
      split <;>
        exact .of_map (n := c.trip) (f := fun x => { x with state := .called }) (fun _ => rfl) rfl
  · exact .refl s

theorem execAlarmInputChange_bringsNoKey (k : Nat) (v : Level) :
    BringsNoKey s (execAlarmInputChange k v s) := by
  refine leaves_next ?_
  dsimp only
  split_ifs
  · exact .refl s
  · exact watchInput_noNewKeys { s with inputs := s.inputs.set .high k v } k v
  · exact .of_eq rfl

theorem execDebounceExpiry_bringsNoKey (k : Nat) : BringsNoKey s (execDebounceExpiry k s) := by
  refine leaves_next ?_
  split
  · exact .refl s
  · split
    · exact acceptLevel_noNewKeys (s.reach _) k _
    · exact .refl s

/-- A reset empties the Trip List (R192). -/
theorem resetValues_noNewKeys : NoNewKeys s s.resetValues := List.nil_sublist _

theorem execLoadingEnd_bringsNoKey : BringsNoKey s (execLoadingEnd s) := by
  have hload : s.loadTables.trips = s.trips := by
    unfold State.loadTables
    split <;> rfl
  refine leaves_next ?_
  split
  · refine .trans (.of_eq ?_) (foldl_startDebounce_noNewKeys _ _)
    split_ifs <;> exact hload
  · exact .refl s

end

/-! ## Requests (10) -/

/-- A request whose handling brings no key. -/
theorem serve_bringsNoKey {mine : List Byte → Bool} {handle : List Byte → State → Reply}
    (hhandle : ∀ p u, NoNewKeys u (handle p u).state) (s : State) :
    BringsNoKey s (.next (s.serve mine handle)) :=
  leaves_next (serve_keeps (inv := NoNewKeys s) (fun _ _ h => h) (fun _ _ _ _ h => h)
    (fun p u h => h.trans (hhandle p u)) (.refl s))

section
variable {u : State} {p : List Byte} {need : Nat} {ok : Bool} {k : Reply}

theorem checkChange_noNewKeys (hk : NoNewKeys u k.state) :
    NoNewKeys u (u.checkChange p need k).state :=
  checkChange_keeps (.refl u) (.of_eq rfl) hk

theorem checkCommand_noNewKeys (hk : NoNewKeys u k.state) :
    NoNewKeys u (u.checkCommand p need k).state :=
  checkCommand_keeps (.refl u) (.of_eq rfl) hk

theorem checkIndex_noNewKeys (hk : NoNewKeys u k.state) :
    NoNewKeys u (u.checkIndex ok k).state :=
  checkIndex_keeps (.refl u) hk

theorem checkField_noNewKeys (hk : NoNewKeys u k.state) :
    NoNewKeys u (u.checkField ok k).state :=
  checkField_keeps (.refl u) hk

end

theorem handleRead_noNewKeys (p : List Byte) (u : State) : NoNewKeys u (handleRead p u).state := by
  have hpolicy : ∀ size record, NoNewKeys u (u.readPolicy p size record).state := by
    intro size record
    unfold State.readPolicy
    refine checkIndex_noNewKeys ?_
    split <;> exact .refl u
  have htable : ∀ lo hi record, NoNewKeys u (u.readTable p lo hi record).state :=
    fun lo hi record => checkIndex_noNewKeys (.refl u)
  have hway : NoNewKeys u (u.readWay p).state := by
    unfold State.readWay
    refine checkIndex_noNewKeys ?_
    split <;> exact .of_eq rfl
  refine checkLength_keeps (.refl u) ?_
  split
  case h_1 => exact hway
  case h_2 | h_3 | h_4 | h_5 => exact hpolicy _ _
  case h_14 | h_15 => exact .refl u
  all_goals exact htable _ _ _

theorem handleFind_noNewKeys (p : List Byte) (u : State) : NoNewKeys u (handleFind p u).state := by
  refine checkLength_keeps (.refl u) ?_
  split
  · exact .refl u
  · split <;> exact .of_eq rfl

theorem handleUndefined_noNewKeys (p : List Byte) (u : State) :
    NoNewKeys u (handleUndefined p u).state := by
  unfold handleUndefined
  split_ifs
  · exact .refl u
  · exact checkChange_noNewKeys (.refl u)
  · exact checkLength_keeps (.refl u) (.refl u)

theorem putEntry_noNewKeys (s : State) (w : Nat) (e : BadgeEntry) :
    NoNewKeys s (s.putEntry w e) := by
  unfold State.putEntry
  dsimp only
  split_ifs
  · exact .of_eq rfl
  · exact dropPass_noNewKeys (s.setWay w (some e)) e.key

theorem placeEntry_noNewKeys (s : State) (e : BadgeEntry) : NoNewKeys s (s.placeEntry e).state := by
  unfold State.placeEntry
  split
  · exact putEntry_noNewKeys { s with freeCount := _ } _ _
  · split
    · exact putEntry_noNewKeys { s with freeCount := _, population := _ } _ _
    · exact .refl s

theorem eraseKey_noNewKeys (s : State) (k : BadgeKey) : NoNewKeys s (s.eraseKey k).state := by
  unfold State.eraseKey
  split
  · exact .refl s
  · exact dropPass_noNewKeys { s with tables := _, population := _ } k

/-! ## Every command but PRESENT_REPLY -/

/-- A command that brings no presentation brings no key to the Trip List. -/
theorem exec_bringsNoKey {c : Instr} (hc : ∀ r, c ≠ .presentReply r) (s : State) :
    BringsNoKey s (exec c s) := by
  cases c with
  | presentReply r => exact absurd rfl (hc r)
  -- commands whose every branch writes fields beside the Trip List
  | clockAdvance | saveMarkCleared verified | saveSectorsErased verified
  | saveTablesProgrammed verified | saveMarkWritten verified | sendPoll | decayExpiry u
  | holdExpiry u | sendAnswer | sendGToTRelay | receiverIdle port | receptionStart port
  | sendCancel | sendMrsp | sendNotice | sendTToGRelay | sendReport =>
    refine leaves_next (.of_eq ?_)
    repeat' split
    all_goals rfl
  -- resets and LOADING
  | fullReset => exact leaves_next (.of_eq (endSave_trips s))
  | fullResetEnd | restartMade =>
    refine leaves_next ?_
    split
    · exact resetValues_noNewKeys s
    · exact .refl s
  | loadingEnd => exact execLoadingEnd_bringsNoKey s
  -- the Terminal Port
  | replyTimeExpiry => exact execReplyTimeExpiry_bringsNoKey s
  | pollReply r => exact execPollReply_bringsNoKey s r
  | receptionEnd port r => exact execReceptionEnd_bringsNoKey s port r
  -- the G-port and the Call Exchange
  | receiveMreq r => exact execReceiveMreq_bringsNoKey s r
  | receiveGToTRelay r => exact execReceiveGToTRelay_bringsNoKey s r
  | receiveAssign r => exact execReceiveAssign_bringsNoKey s r
  | receiveDecline r => exact execReceiveDecline_bringsNoKey s r
  | answerTimeout g tag => exact execAnswerTimeout_bringsNoKey s g tag
  | repeatGuardExpiry n | transferWindowExpiry n => exact leaves_next (expireTrip_noNewKeys s n _)
  | sendCall => exact execSendCall_bringsNoKey s
  -- the alarm lines
  | alarmInputChange k v => exact execAlarmInputChange_bringsNoKey s k v
  | debounceExpiry k => exact execDebounceExpiry_bringsNoKey s k
  -- reading requests
  | read => exact serve_bringsNoKey handleRead_noNewKeys s
  | find => exact serve_bringsNoKey handleFind_noNewKeys s
  | readStatus => exact serve_bringsNoKey (fun _ u => checkLength_keeps (.refl u) (.refl u)) s
  | undefinedOperation => exact serve_bringsNoKey handleUndefined_noNewKeys s
  -- WRITE and ERASE
  | writeCredential =>
    exact serve_bringsNoKey (fun _ _ => checkChange_noNewKeys (checkField_noNewKeys
      (placeEntry_noNewKeys _ _))) s
  | eraseCredential =>
    exact serve_bringsNoKey (fun _ _ => checkChange_noNewKeys (eraseKey_noNewKeys _ _)) s
  | writeProfile | writeTenant | writeLanding =>
    exact serve_bringsNoKey (fun _ _ => checkChange_noNewKeys (checkIndex_noNewKeys
      (checkField_noNewKeys (.of_eq (setStandby_trips _ _))))) s
  | writeHoliday | eraseProfile | eraseTenant | eraseHoliday | eraseLanding =>
    exact serve_bringsNoKey (fun _ _ => checkChange_noNewKeys (checkIndex_noNewKeys
      (.of_eq (setStandby_trips _ _)))) s
  | writeGroup | writeSkyLobby | writeFormat | writeFacilityRange =>
    exact serve_bringsNoKey (fun _ _ => checkChange_noNewKeys (checkIndex_noNewKeys
      (checkField_noNewKeys (.of_eq rfl)))) s
  | eraseSkyLobby | eraseFormat | eraseFacilityRange =>
    exact serve_bringsNoKey (fun _ _ => checkChange_noNewKeys (checkIndex_noNewKeys (.of_eq rfl))) s
  | eraseGroup =>
    exact serve_bringsNoKey (fun _ u => checkChange_noNewKeys (checkIndex_noNewKeys
      (ite_keeps (.refl u) (.of_eq rfl)))) s
  | writeTerminal =>
    exact serve_bringsNoKey (fun _ _ => checkChange_noNewKeys (checkIndex_noNewKeys
      (checkField_noNewKeys (.of_eq (configureTerminal_trips _ _ _))))) s
  | eraseTerminal =>
    exact serve_bringsNoKey (fun _ u => checkChange_noNewKeys (checkIndex_noNewKeys
      (ite_keeps (.refl u) (.of_eq (eraseTerminal_trips _ _))))) s
  | writeAlarmLine =>
    exact serve_bringsNoKey (fun _ _ => checkChange_noNewKeys (checkIndex_noNewKeys
      (checkField_noNewKeys (applyLine_noNewKeys _ _ _)))) s
  | eraseAlarmLine =>
    exact serve_bringsNoKey (fun _ _ => checkChange_noNewKeys (checkIndex_noNewKeys
      (applyLine_noNewKeys _ _ _))) s
  | writeSettings =>
    refine serve_bringsNoKey (fun _ _ => checkChange_noNewKeys (checkIndex_noNewKeys ?_)) s
    split <;> exact .of_eq rfl
  -- commands
  | switchBanks | saveImage =>
    exact serve_bringsNoKey (fun _ _ => checkChange_noNewKeys (.of_eq rfl)) s
  | copyActiveToStandby =>
    exact serve_bringsNoKey (fun _ _ => checkChange_noNewKeys (.of_eq (setStandby_trips _ _))) s
  | restart | lockZones | unlockZones =>
    exact serve_bringsNoKey (fun _ _ => checkCommand_noNewKeys (.of_eq rfl)) s
  | startService | setSiteCode =>
    exact serve_bringsNoKey (fun _ _ => checkCommand_noNewKeys
      (ite_keeps (.of_eq rfl) (.of_eq rfl))) s
  | setTime | clearEvents =>
    exact serve_bringsNoKey (fun _ _ => checkCommand_noNewKeys (checkField_noNewKeys (.of_eq rfl))) s
  | releaseTerminal =>
    exact serve_bringsNoKey (fun _ _ => checkCommand_noNewKeys (checkIndex_noNewKeys (.of_eq rfl))) s
  | ackLine =>
    exact serve_bringsNoKey (fun _ u => checkCommand_noNewKeys (checkIndex_noNewKeys
      (ite_keeps (ite_keeps (.refl u) (unlatch_noNewKeys _ _)) (.refl u)))) s
  | holdGroup =>
    exact serve_bringsNoKey (fun _ _ => checkCommand_noNewKeys (checkIndex_noNewKeys
      (holdGroup_noNewKeys _ _))) s
  | resumeGroup =>
    exact serve_bringsNoKey (fun _ _ => checkCommand_noNewKeys (checkIndex_noNewKeys
      (.of_eq (resumeGroup_trips _ _)))) s
  | enterRecall | leaveRecall =>
    exact serve_bringsNoKey (fun _ _ => checkCommand_noNewKeys
      (.trans (.of_eq rfl) (formMode_noNewKeys _))) s

end Sys2Proof.Safety
end

section
/-! SUPPORT. A presentation: the only command that brings a key, whose older record leaves first; the proof of O60 (R101, R107, R119, R122). -/

namespace Sys2Proof.Safety

open Sys2Proof.Machine

section
variable {s : State}

/-! ## What a decision does to the keys (R99 to R104) -/

/-- After the supersession of a key's record the Trip List has no record of the key. -/
theorem supersededKey_key_free (h : OneTripPerKey s) (k : BadgeKey) :
    k ∉ tripKeys (supersededKey s k) := by
  intro hk
  obtain ⟨y, hy, hyk⟩ := List.mem_map.1 hk
  unfold supersededKey at hy
  split at hy
  · next x hx =>
    rw [supersede_trips] at hy
    obtain ⟨hmem, hnumber⟩ := List.mem_filter.1 hy
    have hxk : x.key = k := by simpa using List.find?_some hx
    have hyx : y = x := List.inj_on_of_nodup_map h hmem (tripOfKey_mem hx) (hyk.trans hxk.symm)
    exact of_decide_eq_true hnumber (congrArg Trip.number hyx)
  · next hx => exact absurd (decide_eq_true hyk) (List.find?_eq_none.1 hx y hy)

/-- A new trip's record comes to a list that has no other of its key. -/
theorem OneTripPerKey.createTrip (h : OneTripPerKey s) (terminal : Nat) (k : BadgeKey) (final g : Nat)
    (transfer : Option Nat) (needs : Bool) :
    OneTripPerKey (s.createTrip terminal k final g transfer needs) := by
  have hroomed : NoNewKeys (supersededKey s k) (supersededKey s k).makeRoom :=
    .of_sublist (makeRoom_trips_sublist _)
  have hkept : NoNewKeys s (supersededKey s k).makeRoom :=
    .trans (.of_sublist (supersededKey_trips_sublist s k)) hroomed
  have hfree : k ∉ tripKeys (supersededKey s k).makeRoom := fun hk =>
    supersededKey_key_free h k (hroomed.subset hk)
  have hkeys : tripKeys (s.createTrip terminal k final g transfer needs) =
      tripKeys (supersededKey s k).makeRoom ++ [k] := List.map_append
  change (tripKeys _).Nodup
  rw [hkeys, ← List.concat_eq_append]
  exact List.Nodup.concat hfree (h.of_noNewKeys hkept)

theorem carryOn_noNewKeys (s : State) (terminal g : Nat) (x : Trip) (needs : Bool) :
    NoNewKeys s (s.carryOn terminal x g needs) :=
  .of_map (f := carriedWith terminal g _) (fun _ => rfl) (carryOn_trips s terminal g x needs)

theorem OneTripPerKey.applyEnding (h : OneTripPerKey s) (u : Nat) (d : Decision) :
    OneTripPerKey (s.applyEnding u d) := by
  unfold State.applyEnding
  split
  · refine h.of_noNewKeys (.of_eq ((deny_trips _ _ _ _).trans ?_))
    split_ifs <;> rfl
  · exact h.of_noNewKeys (.of_eq (placeAnswer_trips _ _))
  · exact h.of_noNewKeys (.of_eq (placeAnswer_trips _ _))
  · exact h.createTrip _ _ _ _ _ _
  · exact h.of_noNewKeys (carryOn_noNewKeys s _ _ _ _)

theorem OneTripPerKey.takePresent (h : OneTripPerKey s) (u : Nat) (payload : List Byte) :
    OneTripPerKey (s.takePresent u payload) := by
  unfold State.takePresent
  split_ifs
  · exact h.of_noNewKeys (.of_eq rfl)
  · exact (h.applyEnding _ _).of_noNewKeys (.of_eq (queueReport_trips _ _))

theorem OneTripPerKey.execPresentReply (h : OneTripPerKey s) (r : Reception) :
    Leaves OneTripPerKey (execPresentReply r s) := by
  refine leaves_next ?_
  split
  · exact h
  · next x f _ =>
    have hgood : OneTripPerKey (s.endExchange.goodReply x) :=
      h.of_noNewKeys (.of_eq (goodReply_trips _ _))
    dsimp only
    split_ifs
    · exact h
    · exact hgood
    · exact hgood.takePresent _ _

theorem OneTripPerKey.exec (h : OneTripPerKey s) (c : Instr) : Leaves OneTripPerKey (exec c s) := by
  by_cases hc : ∃ r, c = .presentReply r
  · obtain ⟨r, rfl⟩ := hc
    exact h.execPresentReply r
  · exact (exec_bringsNoKey (not_exists.1 hc) s).mono fun _ => h.of_noNewKeys

end

/-- Settles O60: a presentation's own record comes after the key's older one has left, and no other command
brings a key. -/
theorem oneTripForEachKey : Obligations.OneTripForEachKey := by
  refine kept_of_exec (fun s h => ?_) (fun _ _ h => h) fun _ c h => h.exec c
  unfold State.idle
  split_ifs
  · exact h
  · exact h.of_noNewKeys (.of_eq rfl)

end Sys2Proof.Safety
end

section
/-! SUPPORT. A frame that the G-port hands on and the sign of life that it is, and the proof of O23 (R132, R138, R161). -/

namespace Sys2Proof.Safety

open Sys2Proof.Machine

/-! ## The group of a station (R132) -/

theorem groupOfStation_eq_some_iff (s : State) (station g : Nat) :
    s.groupOfStation station = some g ↔
      1 ≤ g ∧ g ≤ 6 ∧ (s.groupConfig g).station = some station ∧
        ∀ h, 1 ≤ h → h < g → (s.groupConfig h).station ≠ some station := by
  change (List.range' 1 6).find? _ = some g ↔ _
  rw [List.find?_range'_eq_some, List.mem_range'_1]
  simp only [decide_eq_true_eq, Bool.not_eq_true', decide_eq_false_iff_not]
  constructor
  · rintro ⟨hstation, hg, hfirst⟩
    exact ⟨by omega, by omega, hstation, hfirst⟩
  · rintro ⟨h1, h6, hstation, hfirst⟩
    exact ⟨hstation, by omega, hfirst⟩

/-! ## Handing a frame on (R138, R161) -/

section
variable {s : State} {f : Frame} {g : Nat}

theorem handOn_frame (s : State) (f : Frame) : s.handOn f = { s with
    gReceiver := .idle, groups := (s.handOn f).groups, events := (s.handOn f).events
    notices := (s.handOn f).notices } :=
  State.signOfLifeFrom_frame { s with gReceiver := .idle } f.source

/-- A SILENT group's station gives a sign of life. -/
theorem handOn_of_silent (hg : s.groupOfStation f.source = some g)
    (hsilent : (s.group g).service = .silent) :
    s.handOn f = (({ s with gReceiver := .idle } : State).setGroup g
      { s.group g with service := .inService, streak := 0 }).raise .groupRestored := by
  have hidle : ({ s with gReceiver := .idle } : State).groupOfStation f.source = some g := hg
  rw [State.handOn, State.signOfLifeFrom, hidle]
  exact if_pos hsilent

/-- Any other frame leaves the receiver IDLE and nothing else. -/
theorem handOn_of_not_silent
    (h : ∀ g, s.groupOfStation f.source = some g → (s.group g).service ≠ .silent) :
    s.handOn f = { s with gReceiver := .idle } := by
  have hsame : ({ s with gReceiver := .idle } : State).groupOfStation f.source =
    s.groupOfStation f.source := rfl
  rw [State.handOn, State.signOfLifeFrom, hsame]
  cases hg : s.groupOfStation f.source with
  | none => rfl
  | some g => exact if_neg (h g hg)

/-- A sign of life restores the group that is SILENT, and every other stays. -/
theorem handOn_group_of_silent (hg : s.groupOfStation f.source = some g)
    (hsilent : (s.group g).service = .silent) (h : Nat) : (s.handOn f).group h =
      if h = g then { s.group h with service := .inService, streak := 0 } else s.group h := by
  rw [handOn_of_silent hg hsilent, State.raise_group, setGroup_group]
  split_ifs with hh
  · rw [hh]
  · rfl

/-- No sign of life touches the calls of a group. -/
theorem handOn_outstanding (s : State) (f : Frame) (h : Nat) :
    ((s.handOn f).group h).outstanding = (s.group h).outstanding := by
  by_cases hlife : ∃ g, s.groupOfStation f.source = some g ∧ (s.group g).service = .silent
  · obtain ⟨g, hg, hsilent⟩ := hlife
    rw [handOn_group_of_silent hg hsilent]
    split_ifs <;> rfl
  · rw [handOn_of_not_silent fun g hg hsilent => hlife ⟨g, hg, hsilent⟩]
    rfl

/-- An outstanding call is found as before the frame. -/
@[simp] theorem handOn_outstandingOf (s : State) (f : Frame) (g tag : Nat) :
    (s.handOn f).outstandingOf g tag = s.outstandingOf g tag := by
  rw [State.outstandingOf, handOn_outstanding]; rfl

@[simp] theorem handOn_tables (s : State) (f : Frame) : (s.handOn f).tables = s.tables := by
  rw [handOn_frame]

@[simp] theorem handOn_now (s : State) (f : Frame) : (s.handOn f).now = s.now := by
  rw [handOn_frame]

@[simp] theorem handOn_answers (s : State) (f : Frame) : (s.handOn f).answers = s.answers := by
  rw [handOn_frame]

@[simp] theorem handOn_terminals (s : State) (f : Frame) :
    (s.handOn f).terminals = s.terminals := by
  rw [handOn_frame]

theorem handOn_terminal (s : State) (f : Frame) : (s.handOn f).terminal = s.terminal :=
  congrArg (Store.get ({} : TerminalState)) (handOn_terminals s f)

@[simp] theorem handOn_cancels (s : State) (f : Frame) : (s.handOn f).cancels = s.cancels := by
  rw [handOn_frame]

@[simp] theorem handOn_groupOfStation (s : State) (f : Frame) (station : Nat) :
    (s.handOn f).groupOfStation station = s.groupOfStation station := by
  rw [handOn_frame]; rfl

end

/-- Settles O23: the frame's station is that of one group at most, and `State.signOfLife` asks whether it is
SILENT. -/
theorem frameIsASignOfLife : Obligations.FrameIsASignOfLife := by
  intro s f t
  refine ⟨handOn_frame s f, fun hlive => handOn_of_not_silent fun g hg => ?_,
    fun g h1 h6 hstation hfirst hsilent => ?_⟩
  · obtain ⟨h1, h6, hstation, -⟩ := (groupOfStation_eq_some_iff s f.source g).1 hg
    exact hlive g h1 h6 hstation
  · have hg : s.groupOfStation f.source = some g :=
      (groupOfStation_eq_some_iff s f.source g).2 ⟨h1, h6, hstation, hfirst⟩
    refine ⟨?_, handOn_group_of_silent hg hsilent⟩
    have ht : t = _ := handOn_of_silent hg hsilent
    rw [ht]
    exact counted_raise (({ s with gReceiver := .idle } : State).setGroup g _) .groupRestored

end Sys2Proof.Safety
end

section
/-! SUPPORT. How an ASSIGN or a DECLINE reaches its group's calls, and the proofs of O26 and O27 (R132, R134, R135, R139, R193). -/

namespace Sys2Proof.Safety

open Sys2Proof.Machine

/-! ## A frame of a group for the part (R132, R165, R193) -/

section
variable {s : State} {r : Reception} {f : Frame}

theorem ForThePart.arrival (h : ForThePart s r f) {a : Arrival} (hclass : s.classify f = a) :
    s.arrival r a = some f := by
  obtain ⟨hw, hreceiving, hjudge, -⟩ := h
  simp [State.arrival, hw.operating, hreceiving, hjudge, Option.filter, hclass]

theorem ForThePart.classify_assign (h : ForThePart s r f) (hk : f.kind = 17) :
    s.classify f = .assign := by
  obtain ⟨-, -, -, hdestination⟩ := h
  simp [State.classify, State.settings, hdestination, hk, kindMreq, kindAssign]

theorem ForThePart.classify_decline (h : ForThePart s r f) (hk : f.kind = 18) :
    s.classify f = .decline := by
  obtain ⟨-, -, -, hdestination⟩ := h
  simp [State.classify, State.settings, hdestination, hk, kindMreq, kindAssign, kindDecline]

/-- The form that both commands have: the frame is handed on, and with 3 bytes from a group's station it is
taken for that group. -/
def takenForItsGroup (take : State → Nat → State) (f : Frame) (s : State) : State :=
  match (s.handOn f).groupOfStation f.source with
  | none => s.handOn f
  | some g => if f.payload.length ≠ 3 then s.handOn f else take (s.handOn f) g

theorem ForThePart.exec_receiveAssign (h : ForThePart s r f) (hk : f.kind = 17) :
    exec (.receiveAssign r) s = .next (takenForItsGroup
      (fun u g => u.takeAssign g (numAt f.payload 0 2) (numAt f.payload 2 1)) f s) := by
  change execReceiveAssign r s = _
  rw [execReceiveAssign, h.arrival (h.classify_assign hk)]
  rfl

theorem ForThePart.exec_receiveDecline (h : ForThePart s r f) (hk : f.kind = 18) :
    exec (.receiveDecline r) s = .next (takenForItsGroup
      (fun u g => u.takeDecline g (numAt f.payload 0 2) (numAt f.payload 2 1)) f s) := by
  change execReceiveDecline r s = _
  rw [execReceiveDecline, h.arrival (h.classify_decline hk)]
  rfl

section
variable (take : State → Nat → State)

/-- From no group's station, or of another length than 3, a frame is a sign of life at most (R193). -/
theorem takenForItsGroup_discarded
    (h : s.groupOfStation f.source = none ∨ f.payload.length ≠ 3) :
    takenForItsGroup take f s = s.handOn f := by
  rw [takenForItsGroup, handOn_groupOfStation]
  cases hg : s.groupOfStation f.source with
  | none => rfl
  | some g => exact if_pos (h.resolve_left (by simp [hg]))

theorem takenForItsGroup_taken {g : Nat} (hg : s.groupOfStation f.source = some g)
    (hlen : f.payload.length = 3) : takenForItsGroup take f s = take (s.handOn f) g := by
  rw [takenForItsGroup, handOn_groupOfStation, hg]
  exact if_neg (not_not.2 hlen)

end

section
variable (h : ForThePart s r f)
include h

theorem ForThePart.assign_discarded (hk : f.kind = 17)
    (hframe : s.groupOfStation f.source = none ∨ f.payload.length ≠ 3) :
    exec (.receiveAssign r) s = .next (s.handOn f) := by
  rw [h.exec_receiveAssign hk, takenForItsGroup_discarded _ hframe]

theorem ForThePart.assign_taken {g : Nat} (hk : f.kind = 17)
    (hg : s.groupOfStation f.source = some g) (hlen : f.payload.length = 3) :
    exec (.receiveAssign r) s =
      .next ((s.handOn f).takeAssign g (numAt f.payload 0 2) (numAt f.payload 2 1)) := by
  rw [h.exec_receiveAssign hk, takenForItsGroup_taken _ hg hlen]

theorem ForThePart.decline_discarded (hk : f.kind = 18)
    (hframe : s.groupOfStation f.source = none ∨ f.payload.length ≠ 3) :
    exec (.receiveDecline r) s = .next (s.handOn f) := by
  rw [h.exec_receiveDecline hk, takenForItsGroup_discarded _ hframe]

theorem ForThePart.decline_taken {g : Nat} (hk : f.kind = 18)
    (hg : s.groupOfStation f.source = some g) (hlen : f.payload.length = 3) :
    exec (.receiveDecline r) s =
      .next ((s.handOn f).takeDecline g (numAt f.payload 0 2) (numAt f.payload 2 1)) := by
  rw [h.exec_receiveDecline hk, takenForItsGroup_taken _ hg hlen]

end
end

/-! ## An ASSIGN that ends no call (R132, R134) -/

section
variable {s : State} {g tag car : Nat}

theorem takeAssign_of_no_car (h : car = 0 ∨ 16 < car) : s.takeAssign g tag car = s := by
  rw [State.takeAssign, if_pos (by simpa using h)]

/-- Of a car that the part knows, an ASSIGN is taken by what its tag is. -/
theorem takeAssign_of_outstanding {o : Outstanding} (h1 : 1 ≤ car) (h16 : car ≤ 16)
    (ho : s.outstandingOf g tag = some o) : s.takeAssign g tag car = s.assignCall g o car := by
  rw [State.takeAssign, if_neg (by simp; omega), ho]

theorem takeAssign_of_unknown (h1 : 1 ≤ car) (h16 : car ≤ 16)
    (ho : s.outstandingOf g tag = none) : s.takeAssign g tag car =
      if s.tagSettled g tag then s else s.placeCancel ⟨g, tag⟩ := by
  rw [State.takeAssign, if_neg (by simp; omega), ho]

theorem tagSettled_iff : s.tagSettled g tag = true ↔
    ∃ y ∈ s.trips, (y.state = .assigned ∨ y.state = .awaitingTransfer) ∧
      y.tag = tag ∧ y.group = g := by
  simp [State.tagSettled, Trip.settled, and_assoc]

end

/-- Settles O26, by the cases of `State.takeAssign` that end no call. -/
theorem unknownAssignIsCancelled : Obligations.UnknownAssignIsCancelled := by
  intro s r f h hk tag car u
  refine ⟨fun hdiscarded => ?_, fun g hg hlen h1 h16 ho => ?_⟩
  · by_cases hframe : s.groupOfStation f.source = none ∨ f.payload.length ≠ 3
    · exact h.assign_discarded hk hframe
    · obtain ⟨hsome, hlen⟩ := not_or.1 hframe
      obtain ⟨g, hg⟩ := Option.ne_none_iff_exists'.1 hsome
      have hcar : car = 0 ∨ 16 < car := (or_assoc.2 hdiscarded).resolve_left hframe
      rw [h.assign_taken hk hg (not_not.1 hlen), takeAssign_of_no_car hcar]
  · intro settled
    have hsettled : u.tagSettled g tag = true ↔ settled := by
      rw [tagSettled_iff, handOn_trips]
    have hcancels : u.cancels = s.cancels := handOn_cancels s f
    have hexec : exec (.receiveAssign r) s =
        .next (if u.tagSettled g tag then u else u.placeCancel ⟨g, tag⟩) := by
      rw [h.assign_taken hk hg hlen,
        takeAssign_of_unknown h1 h16 ((handOn_outstandingOf s f g tag).trans ho)]
    rw [hexec]
    refine ⟨fun hs => ?_, fun hs hroom => ?_, fun hs hnew hfull => ?_⟩
    · rw [if_pos (hsettled.2 hs)]
    · rw [if_neg (mt hsettled.1 hs), placeCancel_lists (hcancels.symm ▸ hroom), hcancels]
    · rw [if_neg (mt hsettled.1 hs),
        placeCancel_loses (hcancels.symm ▸ hnew) (hcancels.symm ▸ hfull)]
      exact ⟨_, rfl, counted_raise u .cancelLost, rfl⟩

/-! ## A DECLINE (R135) -/

section
variable {s : State} {g tag code : Nat} {o : Outstanding} {x : Trip}

theorem takeDecline_of_unknown (ho : s.outstandingOf g tag = none) :
    s.takeDecline g tag code = s := by
  rw [State.takeDecline, ho]

theorem takeDecline_of_outstanding (ho : s.outstandingOf g tag = some o) :
    s.takeDecline g tag code =
      (s.removeOutstanding g tag).failTrip o.call.trip (declineReason code) := by
  rw [State.takeDecline, ho]

/-- The tag's call leaves its group's table, and nothing else of any group changes (R127). -/
theorem removeOutstanding_group (s : State) (g tag h : Nat) :
    (s.removeOutstanding g tag).group h = if h = g then { s.group h with
      outstanding := (s.group h).outstanding.filter (fun y => y.call.tag ≠ tag) }
      else s.group h := by
  rw [State.removeOutstanding, setGroup_group]
  split_ifs with hh
  · rw [hh]
  · rfl

theorem failTrip_groups (s : State) (n : Nat) (r : Reason) :
    (s.failTrip n r).groups = s.groups := by
  rw [State.failTrip_frame]

theorem failTrip_group (s : State) (n : Nat) (r : Reason) (h : Nat) :
    (s.failTrip n r).group h = s.group h :=
  congrArg (fun groups => Store.get ({} : GroupState) groups h) (failTrip_groups s n r)

/-- The terminal that awaits a failed trip is answered RETRY and becomes IDLE (R59, R121). -/
theorem failTrip_awaited (r : Reason) (hx : s.tripOf o.call.trip = some x) (haw : Awaits s x) :
    (s.failTrip o.call.trip r).answers = s.answers ++ [x.answer .retry (some r) none none] ∧
      ∀ y, (s.failTrip o.call.trip r).terminal y =
        if y = x.terminal then { s.terminal y with service := .idle } else s.terminal y := by
  refine ⟨by rw [failTrip_answers r hx, if_pos haw], fun y => ?_⟩
  exact (idled_failTrip r hx y).trans (if_congr (and_iff_left haw) rfl rfl)

/-- The answers and the terminals of a failed trip that no terminal awaits stay (R59). -/
theorem failTrip_not_awaited (r : Reason) (hx : s.tripOf o.call.trip = some x)
    (h : ¬ Awaits s x) : (s.failTrip o.call.trip r).answers = s.answers ∧
      (s.failTrip o.call.trip r).terminals = s.terminals := by
  have hkept : s.failTrip o.call.trip r = s.removeTrip o.call.trip := by
    rw [State.failTrip, hx]
    exact State.endAwait_none (s.removeTrip o.call.trip) x _ h
  rw [hkept]
  exact ⟨rfl, rfl⟩

end

/-- Settles O27: the call leaves with `State.removeOutstanding`, and its trip fails. -/
theorem declineEndsTheTrip : Obligations.DeclineEndsTheTrip := by
  intro s r f h hk tag why u
  refine ⟨h.decline_discarded hk, fun g hg ho => ?_,
    fun g o x hg hlen ho hx => ?_⟩
  · by_cases hlen : f.payload.length = 3
    · rw [h.decline_taken hk hg hlen,
        takeDecline_of_unknown ((handOn_outstandingOf s f g tag).trans ho)]
    · exact h.decline_discarded hk (.inr hlen)
  · intro awaited
    rw [h.decline_taken hk hg hlen,
      takeDecline_of_outstanding ((handOn_outstandingOf s f g tag).trans ho)]
    let left := u.removeOutstanding g tag
    have hterminal : left.terminal = s.terminal  := handOn_terminal s f
    have hanswers : left.answers = s.answers := handOn_answers s f
    have hawaits : Awaits left x ↔ awaited := by rw [Awaits, hterminal]
    have hleft : left.tripOf o.call.trip = some x :=
      (congrArg (List.find? _) (handOn_trips s f)).trans hx
    have htrips : (left.failTrip o.call.trip why).trips =
        s.trips.filter (fun y => y.number ≠ x.number) := by
      rw [tripOf_number hx, State.failTrip_trips]
      exact congrArg (List.filter _) (handOn_trips s f)
    refine ⟨left.failTrip o.call.trip why, rfl, ?_, fun h => ?_, fun haw => ?_, fun haw => ?_⟩
    · rw [← htrips, failTrip_groups]
      exact left.failTrip_frame o.call.trip why
    · exact (failTrip_group left _ _ h).trans (removeOutstanding_group u g tag h)
    · rw [← hterminal, ← hanswers]
      exact failTrip_awaited why hleft (hawaits.2 haw)
    · obtain ⟨hkept, hterminals⟩ := failTrip_not_awaited why hleft (mt hawaits.1 haw)
      exact ⟨hkept.trans hanswers, hterminals.trans (handOn_terminals s f)⟩

end Sys2Proof.Safety
end

section
/-! SUPPORT. What an assignment leaves of the Credential Table, the Trip List, the answers and the terminals, and the proof of O25 (R32, R78, R105, R111, R112, R132, R133). -/

namespace Sys2Proof.Safety

open Sys2Proof.Machine

/-! ## What the tables hold of a tag and of a number (R109, R127) -/

theorem outstandingOf_eq_some_iff (s : State) (g tag : Nat) (o : Outstanding) :
    s.outstandingOf g tag = some o ↔
      ∃ older younger, (s.group g).outstanding = older ++ o :: younger ∧ o.call.tag = tag ∧
        ∀ y ∈ older, y.call.tag ≠ tag := by
  rw [State.outstandingOf, List.find?_eq_some_iff_append]
  simp only [decide_eq_true_eq, Bool.not_eq_true', decide_eq_false_iff_not]
  constructor
  · rintro ⟨htag, older, younger, hsplit, hfirst⟩
    exact ⟨older, younger, hsplit, htag, hfirst⟩
  · rintro ⟨older, younger, hsplit, htag, hfirst⟩
    exact ⟨htag, older, younger, hsplit, hfirst⟩

theorem tripOf_eq_some_iff (s : State) (n : Nat) (x : Trip) :
    s.tripOf n = some x ↔
      ∃ older younger, s.trips = older ++ x :: younger ∧ x.number = n ∧
        ∀ y ∈ older, y.number ≠ n := by
  rw [State.tripOf, List.find?_eq_some_iff_append]
  simp only [decide_eq_true_eq, Bool.not_eq_true', decide_eq_false_iff_not]
  constructor
  · rintro ⟨hnumber, older, younger, hsplit, hfirst⟩
    exact ⟨older, younger, hsplit, hnumber, hfirst⟩
  · rintro ⟨older, younger, hsplit, hnumber, hfirst⟩
    exact ⟨hnumber, older, younger, hsplit, hfirst⟩

/-! ## The visitor's count-down (R32) -/

/-- The entry after one trip of its key: a VISITOR's has one less, never below 0. -/
def countedDown (e : BadgeEntry) : BadgeEntry :=
  if e.cls = .visitor then { e with trips := e.trips.map (fun n => n - 1) } else e

section
variable (s : State) (k : BadgeKey)

theorem countDown_way (w : Nat) : (s.countDown k).way w =
    if s.lookupWay k = some w then (s.way w).map countedDown else s.way w := by
  unfold State.countDown
  cases hv : s.lookupWay k with
  | none => simp
  | some v =>
    obtain ⟨-, e, he, -⟩ := lookupWay_holds hv
    simp only [he, Option.some.injEq]
    by_cases hvw : v = w
    · subst hvw
      rw [if_pos rfl, he, Option.map_some, countedDown]
      split_ifs
      · exact s.setWay_way_same v _
      · exact he
    · rw [if_neg hvw]
      split_ifs
      · exact State.setWay_way_other s _ hvw
      · rfl

/-- Of the tables a count-down touches the Credential Table alone. -/
theorem countDown_credentials : s.countDown k = { s with
    tables := { s.tables with credentials := (s.countDown k).tables.credentials } } := by
  unfold State.countDown
  split
  · rfl
  · split
    · rfl
    · split_ifs <;> rfl

end

/-- A lookup reads the Credential Table alone (R21). -/
theorem lookupWay_of_tables {s t : State} (h : t.tables = s.tables) (k : BadgeKey) :
    t.lookupWay k = s.lookupWay k := by
  unfold State.lookupWay State.wayHolds State.way
  rw [h]

/-! ## The trip's record (R111, R112) -/

/-- The trip is on its last leg and no repeat guard keeps its record (R111). -/
abbrev Forgotten (s : State) (x : Trip) : Prop :=
  (x.legs = 1 ∨ x.leg = 2) ∧ s.tables.settings.repeatGuard = 0

theorem onLastLeg_iff (x : Trip) : x.onLastLeg = true ↔ x.legs = 1 ∨ x.leg = 2 := by
  simp [Trip.onLastLeg]

theorem forgotten_iff (s : State) (x : Trip) :
    (x.onLastLeg && decide (s.settings.repeatGuard = 0)) = true ↔ Forgotten s x := by
  rw [Bool.and_eq_true, onLastLeg_iff, decide_eq_true_iff]
  rfl

section
variable (s : State) (x : Trip) (car : Nat)

theorem advance_eq : advance s car x = if x.legs = 1 ∨ x.leg = 2 then
    x.assigned car s.now s.tables.settings else x.passed car s.now s.tables.settings :=
  if_congr (onLastLeg_iff x) rfl rfl

theorem admitAnswer_eq : admitAnswer x car = ⟨x.terminal, .admitted, none, some x.final, some car,
    if x.legs = 1 ∨ x.leg = 2 then none else x.transfer, false⟩ :=
  congrArg (fun transfer => x.answer .admitted none (some car) transfer)
    (if_congr (onLastLeg_iff x) rfl rfl)

theorem advanced_frame : advanced s x car = { s with
    trips := (advanced s x car).trips
    tables := { s.tables with credentials := (advanced s x car).tables.credentials } } := by
  unfold advanced
  split_ifs
  · rw [countDown_credentials]; rfl
  · rfl

theorem advanced_way (w : Nat) : (advanced s x car).way w =
    if x.leg = 1 ∧ s.lookupWay x.key = some w then (s.way w).map countedDown else s.way w := by
  unfold advanced
  by_cases hleg : x.leg = 1
  · rw [if_pos hleg, countDown_way]
    exact if_congr (and_iff_right hleg).symm rfl rfl
  · rw [if_neg hleg, if_neg fun h => hleg h.1]
    rfl

/-! ## The assignment of a trip (R105, R111, R112) -/

variable {s x} in
/-- The terminal that awaits the trip is answered ADMIT, becomes IDLE and has hold count 0 (R59, R78). -/
theorem endAwait_admitted {a : Answer} (hadmit : a.verdict = .admitted)
    (hterminal : a.terminal = x.terminal) (haw : Awaits s x) :
    (s.endAwait x a).answers = s.answers ++ [a] ∧
      ∀ y, (s.endAwait x a).terminal y = if y = x.terminal then
        { s.terminal y with service := .idle, holds := 0 } else s.terminal y := by
  rw [State.endAwait_some _ _ _ haw, State.placeAnswer_admitted _ _ hadmit, hterminal]
  refine ⟨rfl, fun y => ?_⟩
  rw [setTerminal_terminal, State.setTerminal_terminal_same]
  split_ifs with hy
  · rw [hy]
  · exact State.setTerminal_terminal_other s _ (Ne.symm hy)

/-- But for the removal of the record, an assignment is its trip's advance and the answer. -/
theorem assignTrip_of_advanced : s.assignTrip x car =
    { (advanced s x car).endAwait x (admitAnswer x car) with
      trips := (s.assignTrip x car).trips } := by
  rw [assignTrip_eq]
  split_ifs <;> rfl

theorem assignTrip_frame : s.assignTrip x car = { s with
    trips := (s.assignTrip x car).trips, answers := (s.assignTrip x car).answers
    terminals := (s.assignTrip x car).terminals
    tables := { s.tables with credentials := (s.assignTrip x car).tables.credentials } } := by
  rw [assignTrip_of_advanced, State.endAwait_frame, advanced_frame]

theorem assignTrip_way (w : Nat) : (s.assignTrip x car).way w =
    if x.leg = 1 ∧ s.lookupWay x.key = some w then (s.way w).map countedDown else s.way w := by
  rw [← advanced_way s x car, assignTrip_of_advanced, State.endAwait_frame]
  rfl

variable {s x}

/-- A record that is kept advances in its place. -/
theorem assignTrip_trips (h : ¬ Forgotten s x) : (s.assignTrip x car).trips =
    s.trips.map (fun y => if y.number = x.number then advance s car y else y) := by
  rw [assignTrip_eq, if_neg (mt (forgotten_iff s x).1 h), endAwait_trips, advanced_trips]

/-- Without a repeat guard a record on its last leg leaves. -/
theorem assignTrip_trips_forgotten (h : Forgotten s x) : (s.assignTrip x car).trips =
    s.trips.filter (fun y => y.number ≠ x.number) := by
  have hsame : ∀ y : Trip, (if y.number = x.number then advance s car y else y).number = y.number :=
    fun y => by
      split_ifs
      · exact (advance_fields s car y).1
      · rfl
  have hothers : ∀ y ∈ s.trips.filter (fun y => y.number ≠ x.number),
      (if y.number = x.number then advance s car y else y) = y :=
    fun y hy => if_neg (of_decide_eq_true (List.mem_filter.1 hy).2)
  rw [assignTrip_eq, if_pos ((forgotten_iff s x).2 h)]
  change ((advanced s x car).endAwait x _).trips.filter _ = _
  rw [endAwait_trips, advanced_trips, List.filter_map, Function.comp_def]
  simp only [hsame]
  exact (List.map_congr_left hothers).trans (List.map_id _)

theorem assignTrip_awaited (haw : Awaits s x) :
    (s.assignTrip x car).answers = s.answers ++ [admitAnswer x car] ∧
      ∀ y, (s.assignTrip x car).terminal y = if y = x.terminal then
        { s.terminal y with service := .idle, holds := 0 } else s.terminal y := by
  have hterminal : (advanced s x car).terminal = s.terminal := by rw [advanced_frame]; rfl
  have hanswers : (advanced s x car).answers = s.answers := by rw [advanced_frame]
  have hawaits : Awaits (advanced s x car) x := by rw [Awaits, hterminal]; exact haw
  rw [assignTrip_of_advanced, ← hterminal, ← hanswers]
  exact endAwait_admitted (a := admitAnswer x car) rfl rfl hawaits

theorem assignTrip_not_awaited (haw : ¬ Awaits s x) :
    (s.assignTrip x car).answers = s.answers ∧ (s.assignTrip x car).terminals = s.terminals := by
  have haw' : ¬ Awaits (advanced s x car) x := by rw [advanced_frame]; exact haw
  rw [assignTrip_of_advanced, State.endAwait_none _ _ _ haw', advanced_frame]
  exact ⟨rfl, rfl⟩

end

/-! ## The call ends (R133) -/

theorem removeOutstanding_tripOf (s : State) (g tag n : Nat) :
    (s.removeOutstanding g tag).tripOf n = s.tripOf n := rfl

section
variable {s : State} {o : Outstanding} {x : Trip}

/-- The call leaves its table, its trip is assigned, and the streak becomes 0. -/
theorem assignCall_eq (hx : s.tripOf o.call.trip = some x) (g car : Nat) : s.assignCall g o car =
    ((s.removeOutstanding g o.call.tag).assignTrip x car).setGroup g
      { (s.removeOutstanding g o.call.tag).group g with streak := 0 } := by
  rw [State.assignCall, removeOutstanding_tripOf, hx]
  dsimp only
  rw [assignTrip_frame]
  rfl

theorem assignCall_group (hx : s.tripOf o.call.trip = some x) (g car h : Nat) :
    (s.assignCall g o car).group h = if h = g then { s.group h with
      outstanding := (s.group h).outstanding.filter (fun y => y.call.tag ≠ o.call.tag), streak := 0 }
      else s.group h := by
  have hkept : ((s.removeOutstanding g o.call.tag).assignTrip x car).group h =
      (s.removeOutstanding g o.call.tag).group h := by rw [assignTrip_frame]; rfl
  rw [assignCall_eq hx, setGroup_group, hkept]
  by_cases hh : h = g
  · subst hh
    rw [if_pos rfl, if_pos rfl, removeOutstanding_group, if_pos rfl]
  · rw [if_neg hh, if_neg hh, removeOutstanding_group, if_neg hh]

end

/-- Settles O25: the call leaves with `State.removeOutstanding`, and its trip is assigned (`State.assignTrip`). -/
theorem assignEndsTheCall : Obligations.AssignEndsTheCall := by
  refine ⟨groupOfStation_eq_some_iff, outstandingOf_eq_some_iff, tripOf_eq_some_iff, ?_⟩
  intro s r f g o x h hk hlen tag car hg h1 h16 ho hx u c last awaited
  obtain ⟨-, htag⟩ := outstandingOf_mem ho
  let left := u.removeOutstanding g o.call.tag
  have htables : left.tables = s.tables := handOn_tables s f
  have hterminal : left.terminal = s.terminal  := handOn_terminal s f
  have hanswers : left.answers = s.answers := handOn_answers s f
  have htrips : left.trips = s.trips := handOn_trips s f
  have hawaits : Awaits left x ↔ awaited := by rw [Awaits, hterminal]
  have hforgotten : Forgotten left x ↔ last ∧ c.repeatGuard = 0 := by rw [Forgotten, htables]
  have hux : u.tripOf o.call.trip = some x := (congrArg (List.find? _) htrips).trans hx
  have hcall := assignCall_eq hux g car
  refine ⟨u.assignCall g o car, ?_, ?_, fun j => ?_, fun hkept => ?_, fun hlast hzero => ?_,
    fun haw => ?_, fun haw => ?_, fun w => ?_⟩
  · rw [h.assign_taken hk hg hlen,
      takeAssign_of_outstanding h1 h16 ((handOn_outstandingOf s f g tag).trans ho)]
  · rw [hcall, assignTrip_frame, htables]
    rfl
  · rw [assignCall_group hux, htag]
  · rw [hcall, State.setGroup_trips, ← htrips]
    refine (assignTrip_trips car (mt hforgotten.1 hkept)).trans (List.map_congr_left fun y _ => ?_)
    rw [advance_eq, htables, show left.now = s.now from handOn_now s f, ite_not]
    rfl
  · rw [hcall, State.setGroup_trips, ← htrips]
    exact assignTrip_trips_forgotten car (hforgotten.2 ⟨hlast, hzero⟩)
  · simp only [hcall, State.setGroup_answers, State.setGroup_terminal]
    rw [← hterminal, ← hanswers, ← admitAnswer_eq]
    exact assignTrip_awaited car (hawaits.2 haw)
  · obtain ⟨hkept, hterminals⟩ := assignTrip_not_awaited car (mt hawaits.1 haw)
    rw [hcall, State.setGroup_answers, State.setGroup_terminals]
    exact ⟨hkept.trans hanswers, hterminals.trans (handOn_terminals s f)⟩
  · have hway : left.way w = s.way w :=
      congrArg (fun tables : Tables => tables.credentials.get none w) htables
    rw [hcall, ← lookupWay_of_tables htables, ← hway]
    exact assignTrip_way left x car w

end Sys2Proof.Safety
end

section
/-! SUPPORT. What an answer timeout leaves of the call, its trip and its group, and the proof of O28 (R136, R137, R139, R141). -/

namespace Sys2Proof.Safety

open Sys2Proof.Machine

/-! ## The call without an answer (R136, R139) -/

/-- The call has left its table, and its tag is placed on the Cancel List. -/
def callLost (s : State) (g tag deadline : Nat) : State :=
  ((s.reach deadline).removeOutstanding g tag).placeCancel ⟨g, tag⟩

section
variable (s : State) (g tag deadline : Nat)

theorem callLost_frame : callLost s g tag deadline = { s with
    now := max s.now deadline, groups := (callLost s g tag deadline).groups
    cancels := listed s.cancels ⟨g, tag⟩, events := (callLost s g tag deadline).events
    notices := (callLost s g tag deadline).notices } := by
  have hcancels : (callLost s g tag deadline).cancels = listed s.cancels ⟨g, tag⟩ :=
    placeCancel_cancels _ _
  rw [← hcancels, callLost, State.placeCancel_frame]
  rfl

theorem callLost_group (h : Nat) : (callLost s g tag deadline).group h =
    if h = g then { s.group h with
      outstanding := (s.group h).outstanding.filter (fun y => y.call.tag ≠ tag) }
    else s.group h := by
  rw [callLost, State.placeCancel_frame]
  exact removeOutstanding_group (s.reach deadline) g tag h

theorem callLost_trips : (callLost s g tag deadline).trips = s.trips := by
  rw [callLost_frame]

theorem callLost_answers : (callLost s g tag deadline).answers = s.answers := by
  rw [callLost_frame]

theorem callLost_terminal : (callLost s g tag deadline).terminal = s.terminal := by
  rw [callLost_frame]; rfl

theorem callLost_tripOf (n : Nat) : (callLost s g tag deadline).tripOf n = s.tripOf n :=
  congrArg (List.find? _) (callLost_trips s g tag deadline)

theorem raised_callLost : Raised s (callLost s g tag deadline)
    (onlyIf ((⟨g, tag⟩ : Cancel) ∉ s.cancels ∧ 32 ≤ s.cancels.length) .cancelLost) :=
  (raised_placeCancel ((s.reach deadline).removeOutstanding g tag) ⟨g, tag⟩).of_start
    (fun _ => rfl) rfl rfl

end

/-! ## The trip without an answer (R121, R136) -/

/-- The call is lost, and its trip has failed with NO_ANSWER. -/
def unanswered (s : State) (g tag : Nat) (o : Outstanding) : State :=
  (callLost s g tag o.deadline).failTrip o.call.trip .noAnswer

section
variable {s : State} {g tag : Nat} {o : Outstanding} {x : Trip}

theorem exec_answerTimeout (hw : Working s) (ho : s.outstandingOf g tag = some o) :
    exec (.answerTimeout g tag) s = .next ((unanswered s g tag o).raiseStreak g) := by
  change execAnswerTimeout g tag s = _
  rw [execAnswerTimeout, ho]
  exact congrArg Host.Outcome.next (if_pos hw.operating)

theorem unanswered_frame (s : State) (g tag : Nat) (o : Outstanding) :
    unanswered s g tag o = { s with
      now := max s.now o.deadline, groups := (unanswered s g tag o).groups
      cancels := listed s.cancels ⟨g, tag⟩, trips := (unanswered s g tag o).trips
      answers := (unanswered s g tag o).answers, terminals := (unanswered s g tag o).terminals
      events := (unanswered s g tag o).events, notices := (unanswered s g tag o).notices } := by
  unfold unanswered
  rw [State.failTrip_frame, callLost_frame]

theorem unanswered_group (h : Nat) : (unanswered s g tag o).group h =
    if h = g then { s.group h with
      outstanding := (s.group h).outstanding.filter (fun y => y.call.tag ≠ tag) }
    else s.group h :=
  (failTrip_group _ _ _ h).trans (callLost_group s g tag o.deadline h)

theorem raised_unanswered : Raised s (unanswered s g tag o)
    (onlyIf ((⟨g, tag⟩ : Cancel) ∉ s.cancels ∧ 32 ≤ s.cancels.length) .cancelLost) := by
  refine (raised_callLost s g tag o.deadline).of_end ?_ ?_
  · rw [unanswered, State.failTrip_frame]
  · rw [unanswered, State.failTrip_frame]

variable (hx : s.tripOf o.call.trip = some x)
include hx

theorem unanswered_trips :
    (unanswered s g tag o).trips = s.trips.filter (fun y => y.number ≠ x.number) := by
  rw [unanswered, State.failTrip_trips, callLost_trips, tripOf_number hx]

theorem unanswered_tripsOfCalls (calls : List Call) :
    tripsOfCalls (unanswered s g tag o) calls =
      (tripsOfCalls s calls).filter (fun y => y.number ≠ x.number) := by
  have hsame : tripsOfCalls (callLost s g tag o.deadline) calls = tripsOfCalls s calls :=
    List.filterMap_congr fun c _ => callLost_tripOf s g tag o.deadline c.trip
  rw [unanswered, failTrip_tripsOfCalls, hsame, tripOf_number hx]

theorem idled_unanswered : Idled s (unanswered s g tag o) x := by
  intro v
  have hlost := (callLost_tripOf s g tag o.deadline o.call.trip).trans hx
  have hidled := idled_failTrip .noAnswer hlost v
  simp only [Awaits, callLost_terminal] at hidled
  exact hidled

theorem unanswered_answers : (unanswered s g tag o).answers =
    s.answers ++ if Awaits s x then [x.answer .retry (some .noAnswer) none none] else [] := by
  have hlost := (callLost_tripOf s g tag o.deadline o.call.trip).trans hx
  have hanswers := failTrip_answers .noAnswer hlost
  simp only [Awaits, callLost_terminal, callLost_answers] at hanswers
  exact hanswers

end

/-! ## The streak (R9, R136, R137) -/

/-- The group is IN_SERVICE and its streak reaches 3 with the next timeout. -/
abbrev Falls (v : GroupState) : Prop := v.service = .inService ∧ 2 ≤ v.streak

/-- The group has fallen SILENT, its queue not yet withdrawn. -/
def silencedGroup (s : State) (g : Nat) : State :=
  (s.setGroup g { s.group g with
    streak := min 3 ((s.group g).streak + 1), service := .silent }).raise .groupSilent

section
variable {s : State} {g : Nat}

theorem raiseStreak_of_falls (h : Falls (s.group g)) :
    s.raiseStreak g = (silencedGroup s g).withdrawQueue g := by
  obtain ⟨hservice, hstreak⟩ := h
  refine if_pos ?_
  rw [hservice, Bool.and_eq_true, decide_eq_true_iff]
  exact ⟨by omega, rfl⟩

theorem raiseStreak_of_not_falls (h : ¬ Falls (s.group g)) : s.raiseStreak g =
    s.setGroup g { s.group g with streak := min 3 ((s.group g).streak + 1) } := by
  refine if_neg fun hboth => ?_
  rw [Bool.and_eq_true, decide_eq_true_iff, decide_eq_true_iff] at hboth
  exact h ⟨hboth.2, by omega⟩

/-- Falling SILENT touches the group and the events. -/
theorem silencedGroup_frame (s : State) (g : Nat) : silencedGroup s g = { s with
    groups := (silencedGroup s g).groups, events := (silencedGroup s g).events
    notices := (silencedGroup s g).notices } := rfl

theorem withdrawQueue_fields (s : State) (g : Nat) : s.withdrawQueue g = { s with
    groups := (s.withdrawQueue g).groups, trips := (s.withdrawQueue g).trips
    answers := (s.withdrawQueue g).answers, terminals := (s.withdrawQueue g).terminals } := by
  have hframe := s.withdrawQueue_frame g
  generalize s.withdrawQueue g = t at hframe ⊢
  rw [hframe]
  rfl

theorem raiseStreak_frame (s : State) (g : Nat) : s.raiseStreak g = { s with
    groups := (s.raiseStreak g).groups, trips := (s.raiseStreak g).trips
    answers := (s.raiseStreak g).answers, terminals := (s.raiseStreak g).terminals
    events := (s.raiseStreak g).events, notices := (s.raiseStreak g).notices } := by
  by_cases h : Falls (s.group g)
  · have hframe := withdrawQueue_fields (silencedGroup s g) g
    rw [← raiseStreak_of_falls h] at hframe
    generalize s.raiseStreak g = t at hframe ⊢
    rw [hframe, silencedGroup_frame]
  · rw [raiseStreak_of_not_falls h]; rfl

theorem raiseStreak_unanswered_frame (s : State) (g tag : Nat) (o : Outstanding) {t : State}
    (ht : (unanswered s g tag o).raiseStreak g = t) : t = { s with
      now := max s.now o.deadline, groups := t.groups, cancels := listed s.cancels ⟨g, tag⟩
      trips := t.trips, answers := t.answers, terminals := t.terminals, events := t.events
      notices := t.notices } := by
  have hframe := raiseStreak_frame (unanswered s g tag o) g
  rw [ht, unanswered_frame] at hframe
  exact hframe

theorem silencedGroup_group (s : State) (g h : Nat) : (silencedGroup s g).group h =
    if h = g then { s.group g with
      streak := min 3 ((s.group g).streak + 1), service := .silent } else s.group h := by
  rw [silencedGroup, State.raise_group, setGroup_group]

theorem raiseStreak_group (s : State) (g h : Nat) : (s.raiseStreak g).group h =
    if h ≠ g then s.group h
    else if Falls (s.group g) then { s.group g with
      streak := min 3 ((s.group g).streak + 1), service := .silent, queue := [] }
    else { s.group g with streak := min 3 ((s.group g).streak + 1) } := by
  rw [ite_not]
  by_cases hf : Falls (s.group g)
  · rw [raiseStreak_of_falls hf, if_pos hf]
    split_ifs with hh
    · rw [hh, State.withdrawQueue_group, silencedGroup_group, if_pos rfl]
    · rw [State.withdrawQueue_frame]
      exact (State.setGroup_group_other _ _ (Ne.symm hh)).trans
        ((silencedGroup_group s g h).trans (if_neg hh))
  · rw [raiseStreak_of_not_falls hf, if_neg hf]
    exact setGroup_group s g h _

/-- A withdrawal answers and idles the terminals that await the trips of the queue (R141). -/
theorem withdrawQueue_ends_awaits (s : State) (g : Nat) :
    AwaitingBecomeIdle s (s.withdrawQueue g) (tripsOfCalls s (s.group g).queue) ∧
      ∃ more, (s.withdrawQueue g).answers = s.answers ++ more ∧
        AnswersInOrder s (tripsOfCalls s (s.group g).queue) retryNoService more := by
  have hends := failCalls_ends_awaits (s.group g).queue (s.setGroup g { s.group g with queue := [] })
  rw [← withdrawQueue_eq] at hends
  exact hends

/-- GROUP_SILENT is raised exactly as the group falls. -/
theorem raised_raiseStreak (s : State) (g : Nat) :
    Raised s (s.raiseStreak g) (onlyIf (Falls (s.group g)) .groupSilent) := by
  by_cases h : Falls (s.group g)
  · rw [raiseStreak_of_falls h, onlyIf_true h, State.withdrawQueue_frame]
    exact ((Raised.refl (silencedGroup s g)).of_end rfl rfl).raise.of_start
      (s := s.setGroup g _) (fun _ => rfl) rfl rfl
  · rw [raiseStreak_of_not_falls h, onlyIf_false h]
    exact ⟨fun _ => rfl, rfl⟩

/-- A fall withdraws the trips of the group's queue. -/
theorem raiseStreak_trips_of_falls (h : Falls (s.group g)) : (s.raiseStreak g).trips =
    s.trips.filter (fun y => ∀ q ∈ (s.group g).queue, y.number ≠ q.trip) := by
  rw [raiseStreak_of_falls h, State.withdrawQueue_trips, silencedGroup_group, if_pos rfl]
  refine List.filter_congr fun y _ => ?_
  rw [Bool.eq_iff_iff]
  simp

/-- The terminals that await the withdrawn trips become IDLE and are answered in the order of the queue. -/
theorem raiseStreak_ends_awaits (h : Falls (s.group g)) :
    AwaitingBecomeIdle s (s.raiseStreak g) (tripsOfCalls s (s.group g).queue) ∧
      ∃ more, (s.raiseStreak g).answers = s.answers ++ more ∧
        AnswersInOrder s (tripsOfCalls s (s.group g).queue) retryNoService more := by
  have hqueue : ((silencedGroup s g).group g).queue = (s.group g).queue := by
    rw [silencedGroup_group, if_pos rfl]
  have hterminal : (silencedGroup s g).terminal = s.terminal := by rw [silencedGroup_frame]; rfl
  have htrips : (silencedGroup s g).tripOf = s.tripOf := by rw [silencedGroup_frame]; rfl
  have hanswers : (silencedGroup s g).answers = s.answers := by rw [silencedGroup_frame]
  have hends := withdrawQueue_ends_awaits (silencedGroup s g) g
  unfold AwaitingBecomeIdle AnswersInOrder tripsOfCalls Awaits at hends ⊢
  rw [hqueue, hterminal, htrips, hanswers] at hends
  rw [raiseStreak_of_falls h]
  exact hends

end

/-! ## The timed-out trip and then the others (R137, R141) -/

section
variable {s u : State} {x : Trip} {others : List Trip}

/-- A terminal awaits one trip alone, so that a trip of another number is awaited as before. -/
theorem Idled.awaits_other (hu : Idled s u x) {y : Trip} (hy : y.number ≠ x.number) :
    Awaits u y ↔ Awaits s y := by
  rw [hu.awaits_iff]
  refine and_iff_left_of_imp fun haw hboth => ?_
  obtain ⟨hterminal, hx⟩ := hboth
  rw [Awaits, hterminal, hx] at haw
  exact hy (TerminalService.awaiting.inj haw).symm

theorem AnswersInOrder.of_idled {answer : Trip → Answer} {more : List Answer} (hu : Idled s u x)
    (hothers : ∀ y ∈ others, y.number ≠ x.number) (h : AnswersInOrder u others answer more) :
    AnswersInOrder s others answer more := by
  obtain ⟨horder, honce, hall⟩ := h
  have hsame : others.filter (fun y => Awaits u y) = others.filter (fun y => Awaits s y) :=
    List.filter_congr fun y hy => decide_eq_decide.2 (hu.awaits_other (hothers y hy))
  exact ⟨hsame ▸ horder, honce, fun y hy haw =>
    hall y hy ((hu.awaits_other (hothers y hy)).2 haw)⟩

/-- A trip of a queue's calls has another number than `x`, or is `x`. -/
theorem mem_others_or_eq (hx : s.tripOf x.number = some x) {calls : List Call} {y : Trip}
    (hy : y ∈ tripsOfCalls s calls) :
    y ∈ (tripsOfCalls s calls).filter (fun y => y.number ≠ x.number) ∨ y = x := by
  by_cases hn : y.number = x.number
  · obtain ⟨c, -, hc⟩ := List.mem_filterMap.1 hy
    rw [← tripOf_number hc, hn, hx] at hc
    exact .inr (Option.some.inj hc).symm
  · exact .inl (List.mem_filter.2 ⟨hy, decide_eq_true hn⟩)

end

/-- Settles O28: the call is lost and its trip fails (`unanswered`), and then the streak rises and the group may
fall (`State.raiseStreak`). -/
theorem answerTimeoutRaisesTheStreak : Obligations.AnswerTimeoutRaisesTheStreak := by
  intro s g tag o x hw ho hx v falls awaited first
  let u := unanswered s g tag o
  have hgroup : u.group g = { v with
      outstanding := v.outstanding.filter (fun y => y.call.tag ≠ tag) } :=
    (unanswered_group g).trans (if_pos rfl)
  have hfalls : Falls (u.group g) ↔ falls := by rw [hgroup]
  have hafter : (u.raiseStreak g).group g = if falls then { u.group g with
      streak := min 3 (v.streak + 1), service := .silent, queue := [] }
      else { u.group g with streak := min 3 (v.streak + 1) } := by
    rw [raiseStreak_group, if_neg (not_not.2 rfl), hgroup]
  have hidled : Idled s u x := idled_unanswered hx
  have hanswers : u.answers = s.answers ++ first := unanswered_answers hx
  refine ⟨u.raiseStreak g, exec_answerTimeout hw ho, ?_, fun h hh => ?_, ?_, ?_, fun hf => ?_, ?_,
    fun hf => ?_⟩
  · exact raiseStreak_unanswered_frame s g tag o rfl
  · rw [raiseStreak_group, if_pos hh]
    exact (unanswered_group h).trans (if_neg hh)
  · rw [hafter, hgroup]
    split_ifs <;> rfl
  · rw [hafter]
    split_ifs <;> rfl
  · rw [hafter, if_neg hf, hgroup, raiseStreak_of_not_falls (mt hfalls.1 hf)]
    refine ⟨rfl, rfl, unanswered_trips hx, hanswers, fun w => ?_⟩
    exact (hidled w).trans (if_congr and_comm rfl rfl)
  · have hsilent := raised_raiseStreak u g
    simp only [hfalls] at hsilent
    exact raised_unanswered.append (by rw [unanswered_frame]) hsilent
  · have hfu := hfalls.2 hf
    obtain ⟨hidle, more, hmore, horder⟩ := raiseStreak_ends_awaits hfu
    have hqueue : (u.group g).queue = v.queue := by rw [hgroup]
    rw [hqueue, unanswered_tripsOfCalls hx] at hidle horder
    have hnumber : s.tripOf x.number = some x := (tripOf_number hx).symm ▸ hx
    rw [hafter, if_pos hf]
    refine ⟨rfl, rfl, ?_, ?_, more, ?_, ?_⟩
    · rw [raiseStreak_trips_of_falls hfu, hqueue, unanswered_trips hx, List.filter_filter]
      refine List.filter_congr fun y _ => ?_
      rw [Bool.eq_iff_iff]
      simp [and_comm]
    · exact .cons hidled List.filter_sublist (fun y hy => mem_others_or_eq hnumber hy) hidle
    · rw [hmore, hanswers]
    · exact horder.of_idled hidled fun y hy => of_decide_eq_true (List.mem_filter.1 hy).2

end Sys2Proof.Safety
end

section
/-! SUPPORT. What bears on the building mode, and the commands that leave it all as it was (08, R155). -/

namespace Sys2Proof.Safety

open Sys2Proof.Machine

/-! ## What bears on the building mode (R155) -/

/-- The building mode, what forms it, and the part state, which says whether it is to be formed. -/
def modeParts (s : State) := (s.mode, s.recallFlag, s.lines, s.tables.alarmLines, s.partState)

/-- Outside LOADING, with the building mode as the recall flag and the lines in force form it. -/
def ModeStands (s : State) : Prop := s.mode = s.formedMode ∧ s.partState ≠ .loading

theorem modeFollows_iff (s : State) : ModeFollows s ↔
    s.mode = s.formedMode ∧ (s.partState = .loading → s.lines = [] ∧ s.recallFlag = false) := by
  have hmode : (s.mode = .recall ↔ s.formedMode = .recall) ↔ s.mode = s.formedMode := by
    cases s.mode <;> cases s.formedMode <;> simp
  rw [← hmode, formedMode_iff]
  rfl

section
variable {s t : State}

theorem ModeStands.follows (h : ModeStands s) : ModeFollows s :=
  (modeFollows_iff s).2 ⟨h.1, fun hl => absurd hl h.2⟩

theorem ModeFollows.stands (h : ModeFollows s) (hp : s.partState ≠ .loading) : ModeStands s :=
  ⟨((modeFollows_iff s).1 h).1, hp⟩

/-- What the lines and the flag form depends on the flag, on the lines' states and on their configurations. -/
theorem formedMode_congr (hflag : t.recallFlag = s.recallFlag)
    (hline : ∀ j, (t.line j).status = (s.line j).status) (hconfig : t.lineConfig = s.lineConfig) :
    t.formedMode = s.formedMode := by
  unfold State.formedMode lineInForce
  simp only [hflag, hline, hconfig]

/-- With every line NORMAL and the flag clear the mode is NORMAL. -/
theorem formedMode_of_lines_nil (hlines : s.lines = []) (hflag : s.recallFlag = false) :
    s.formedMode = .normal := by
  have hnot : ¬ s.formedMode = .recall := by
    rw [formedMode_iff, hflag]
    rintro (h | ⟨j, -, hj, -⟩)
    · exact Bool.false_ne_true h
    · rw [State.line, hlines] at hj
      exact hj rfl
  cases h : s.formedMode
  · rfl
  · exact absurd h hnot

theorem formedMode_of_parts (h : modeParts t = modeParts s) : t.formedMode = s.formedMode := by
  simp only [modeParts, Prod.mk.injEq] at h
  obtain ⟨-, hflag, hlines, hconfigs, -⟩ := h
  refine formedMode_congr hflag (fun j => ?_) (funext fun j => ?_)
  · rw [State.line, State.line, hlines]
  · rw [State.lineConfig, State.lineConfig, hconfigs]

theorem ModeStands.of_parts (h : ModeStands s) (e : modeParts t = modeParts s) : ModeStands t := by
  have hformed := formedMode_of_parts e
  simp only [modeParts, Prod.mk.injEq] at e
  obtain ⟨hmode, -, -, -, hpart⟩ := e
  exact ⟨by rw [hmode, hformed, h.1], hpart ▸ h.2⟩

theorem ModeFollows.of_parts (h : ModeFollows s) (e : modeParts t = modeParts s) :
    ModeFollows t := by
  rw [modeFollows_iff] at h ⊢
  have hformed := formedMode_of_parts e
  simp only [modeParts, Prod.mk.injEq] at e
  obtain ⟨hmode, hflag, hlines, -, hpart⟩ := e
  rw [hmode, hformed, hflag, hlines, hpart]
  exact h

end

/-! ## Shared operations

The frame equation of an operation names none of the parts. -/

section
variable (s : State)

@[simp] theorem modeParts_raise (k : EventKind) : modeParts (s.raise k) = modeParts s := rfl

@[simp] theorem modeParts_reach (d : Nat) : modeParts (s.reach d) = modeParts s := rfl

@[simp] theorem modeParts_setTerminal (u : Nat) (v : TerminalState) :
    modeParts (s.setTerminal u v) = modeParts s := rfl

@[simp] theorem modeParts_setGroup (g : Nat) (v : GroupState) :
    modeParts (s.setGroup g v) = modeParts s := rfl

@[simp] theorem modeParts_removeTrip (n : Nat) : modeParts (s.removeTrip n) = modeParts s := rfl

@[simp] theorem modeParts_updateTrip (n : Nat) (f : Trip → Trip) :
    modeParts (s.updateTrip n f) = modeParts s := rfl

@[simp] theorem modeParts_removeOutstanding (g tag : Nat) :
    modeParts (s.removeOutstanding g tag) = modeParts s := rfl

@[simp] theorem modeParts_endAwait (x : Trip) (a : Answer) :
    modeParts (s.endAwait x a) = modeParts s :=
  (congrArg modeParts (s.endAwait_frame x a)).trans rfl

@[simp] theorem modeParts_failTrip (n : Nat) (r : Reason) :
    modeParts (s.failTrip n r) = modeParts s :=
  (congrArg modeParts (s.failTrip_frame n r)).trans rfl

@[simp] theorem modeParts_withdrawQueue (g : Nat) : modeParts (s.withdrawQueue g) = modeParts s :=
  (congrArg modeParts (s.withdrawQueue_frame g)).trans rfl

@[simp] theorem modeParts_placeCancel (c : Cancel) : modeParts (s.placeCancel c) = modeParts s :=
  (congrArg modeParts (s.placeCancel_frame c)).trans rfl

@[simp] theorem modeParts_handOn (f : Frame) : modeParts (s.handOn f) = modeParts s :=
  (congrArg modeParts (State.signOfLifeFrom_frame _ f.source)).trans rfl

@[simp] theorem modeParts_miss (x : Exchange) : modeParts (s.miss x) = modeParts s :=
  (congrArg modeParts (s.miss_frame x)).trans rfl

@[simp] theorem modeParts_goodReply (x : Exchange) : modeParts (s.goodReply x) = modeParts s :=
  (congrArg modeParts (s.goodReply_frame x)).trans rfl

@[simp] theorem modeParts_admission (p : Presentation) : modeParts (s.admission p) = modeParts s :=
  (congrArg modeParts (s.admission_frame p)).trans rfl

@[simp] theorem modeParts_endExchange : modeParts s.endExchange = modeParts s := rfl

@[simp] theorem modeParts_countDown (k : BadgeKey) : modeParts (s.countDown k) = modeParts s := by
  unfold State.countDown
  split
  · rfl
  · split
    · rfl
    · split <;> rfl

@[simp] theorem modeParts_setStandby (b : PolicyBank) :
    modeParts (s.setStandby b) = modeParts s := by
  unfold State.setStandby
  split <;> rfl

theorem modeParts_endSave : modeParts s.endSave = modeParts s := by
  unfold State.endSave
  split <;> rfl

/-! ### The Terminal Port and the G-port (04, 09) -/

@[simp] theorem modeParts_offerToNetwork (kind : Nat) (frame : List Byte) :
    modeParts (s.offerToNetwork kind frame) = modeParts s := by
  unfold State.offerToNetwork
  split_ifs <;> rfl

@[simp] theorem modeParts_takePresent (u : Nat) (payload : List Byte) :
    modeParts (s.takePresent u payload) = modeParts s := by
  unfold State.takePresent
  split_ifs <;> simp

@[simp] theorem modeParts_endOnT (r : Reception) : modeParts (s.endOnT r) = modeParts s := by
  unfold State.endOnT
  dsimp only
  split
  · split <;> rfl
  · split_ifs
    · rfl
    · rfl
    · rfl
    · exact modeParts_miss _ _

@[simp] theorem modeParts_endOnG (r : Reception) : modeParts (s.endOnG r) = modeParts s := by
  unfold State.endOnG
  split
  · rfl
  · split
    · rfl
    · exact modeParts_handOn _ _
    all_goals rfl

/-! ### The Call Exchange (07) -/

/-- An assignment advances its trip, counts a visitor down and answers the terminal (R32, R133). -/
theorem modeParts_assignTrip (x : Trip) (car : Nat) :
    modeParts (s.assignTrip x car) = modeParts s := by
  unfold State.assignTrip
  dsimp only
  split_ifs <;> simp

@[simp] theorem modeParts_takeAssign (g tag car : Nat) :
    modeParts (s.takeAssign g tag car) = modeParts s := by
  unfold State.takeAssign
  split
  · rfl
  · split
    · unfold State.assignCall
      dsimp only
      split <;> simp [modeParts_assignTrip]
    · split <;> simp

@[simp] theorem modeParts_takeDecline (g tag code : Nat) :
    modeParts (s.takeDecline g tag code) = modeParts s := by
  unfold State.takeDecline
  split <;> simp

@[simp] theorem modeParts_raiseStreak (g : Nat) : modeParts (s.raiseStreak g) = modeParts s := by
  unfold State.raiseStreak
  dsimp only
  split_ifs <;> simp

theorem modeParts_expireTrip (n : Nat) (st : TripState) :
    modeParts (s.expireTrip n st) = modeParts s := by
  unfold State.expireTrip
  split
  · rfl
  · split
    · rfl
    · split <;> rfl

theorem modeParts_holdGroup (g : Nat) : modeParts (s.holdGroup g) = modeParts s := by
  unfold State.holdGroup
  split_ifs <;> simp

theorem modeParts_resumeGroup (g : Nat) : modeParts (s.resumeGroup g) = modeParts s := by
  unfold State.resumeGroup
  split_ifs <;> rfl

/-! ### The tables (02, 04) -/

theorem modeParts_putEntry (w : Nat) (e : BadgeEntry) :
    modeParts (s.putEntry w e) = modeParts s := by
  unfold State.putEntry
  dsimp only
  split_ifs <;> rfl

theorem modeParts_placeEntry (e : BadgeEntry) : modeParts (s.placeEntry e).state = modeParts s := by
  unfold State.placeEntry
  split
  · exact modeParts_putEntry _ _ _
  · split
    · exact modeParts_putEntry _ _ _
    · rfl

theorem modeParts_eraseKey (k : BadgeKey) : modeParts (s.eraseKey k).state = modeParts s := by
  unfold State.eraseKey
  split <;> rfl

theorem modeParts_configureTerminal (u : Nat) (c : TerminalConfig) :
    modeParts (s.configureTerminal u c) = modeParts s := by
  unfold State.configureTerminal
  split_ifs <;> rfl

theorem modeParts_eraseTerminal (u : Nat) : modeParts (s.eraseTerminal u) = modeParts s := by
  unfold State.eraseTerminal
  split_ifs <;> rfl

/-! ## Commands of the ports and of the Call Exchange -/

/-- The outcome's state has the parts of `s`. -/
def LeavesMode (s : State) : Host.Outcome State Fault Refusal → Prop :=
  Leaves (fun t => modeParts t = modeParts s)

theorem execReplyTimeExpiry_mode : LeavesMode s (execReplyTimeExpiry s) := by
  refine leaves_next ?_
  split
  · rfl
  · split
    · rfl
    · exact modeParts_miss _ _

theorem execPollReply_mode (r : Reception) : LeavesMode s (execPollReply r s) := by
  refine leaves_next ?_
  split
  · rfl
  · dsimp only
    split_ifs <;> simp

theorem execPresentReply_mode (r : Reception) : LeavesMode s (execPresentReply r s) := by
  refine leaves_next ?_
  split
  · rfl
  · dsimp only
    split_ifs <;> simp

theorem execReceptionEnd_mode (port : Port) (r : Reception) :
    LeavesMode s (execReceptionEnd port r s) := by
  refine leaves_next ?_
  cases port <;> dsimp only <;> split
  · exact modeParts_endOnT s r
  · rfl
  · exact modeParts_endOnG s r
  · rfl

theorem execReceiveMreq_mode (r : Reception) : LeavesMode s (execReceiveMreq r s) := by
  refine leaves_next ?_
  split
  · rfl
  · dsimp only
    split <;> exact modeParts_handOn _ _

theorem execReceiveGToTRelay_mode (r : Reception) : LeavesMode s (execReceiveGToTRelay r s) := by
  refine leaves_next ?_
  split
  · rfl
  · dsimp only
    split_ifs <;> exact modeParts_handOn _ _

theorem execReceiveAssign_mode (r : Reception) : LeavesMode s (execReceiveAssign r s) := by
  refine leaves_next ?_
  split
  · rfl
  · dsimp only
    split
    · exact modeParts_handOn _ _
    · split_ifs <;> simp

theorem execReceiveDecline_mode (r : Reception) : LeavesMode s (execReceiveDecline r s) := by
  refine leaves_next ?_
  split
  · rfl
  · dsimp only
    split
    · exact modeParts_handOn _ _
    · split_ifs <;> simp

theorem execAnswerTimeout_mode (g tag : Nat) : LeavesMode s (execAnswerTimeout g tag s) := by
  refine leaves_next ?_
  split
  · rfl
  · split_ifs <;> simp

theorem execSendCall_mode : LeavesMode s (execSendCall s) := by
  refine leaves_next ?_
  split
  · split
    · rfl
    · dsimp only
      split <;> rfl
  · rfl

end

end Sys2Proof.Safety
end

section
/-! SUPPORT. Every step keeps the building mode as the recall flag and the lines in force form it: the proof of O59 (R142, R147, R155, R190, R192). -/

namespace Sys2Proof.Safety

open Sys2Proof.Machine

/-! ## Forming the mode (R155) -/

section
variable {s : State}

/-- Once formed, the mode stands as the flag and the lines form it: recall entry and the end of RECALL touch
neither. -/
theorem modeStands_formMode (hp : s.partState ≠ .loading) : ModeStands s.formMode := by
  have hsame : s.formMode.formedMode = s.formedMode := by rw [s.formMode_frame]; rfl
  have hpart : s.formMode.partState = s.partState := by rw [s.formMode_frame]
  exact ⟨by rw [s.formMode_mode, hsame], hpart ▸ hp⟩

theorem modeStands_acceptLevel (hp : s.partState ≠ .loading) (k : Nat) (v : Level) :
    ModeStands (s.acceptLevel k v) := by
  refine modeStands_formMode ?_
  rw [State.followActive_frame]
  exact hp

/-- A debounce timer bears on no line's state. -/
theorem ModeStands.setTimer (h : ModeStands s) (k : Nat) (timer : Option Nat) :
    ModeStands (s.setLine k { s.line k with timer := timer }) := by
  refine ⟨h.1.trans (Eq.symm ?_), h.2⟩
  refine formedMode_congr rfl (fun j => ?_) rfl
  rw [setLine_line]
  split_ifs with hj
  · rw [hj]
  · rfl

theorem ModeStands.startDebounce (h : ModeStands s) (k : Nat) : ModeStands (s.startDebounce k) := by
  unfold State.startDebounce
  split_ifs
  · exact modeStands_acceptLevel h.2 k _
  · exact h.setTimer k _

theorem ModeStands.watchInput (h : ModeStands s) (k : Nat) (v : Level) :
    ModeStands (s.watchInput k v) := by
  unfold State.watchInput
  split_ifs
  · exact h.setTimer k _
  · exact h.startDebounce k

theorem ModeStands.foldl_startDebounce (h : ModeStands s) (ks : List Nat) :
    ModeStands (ks.foldl State.startDebounce s) := by
  induction ks generalizing s with
  | nil => exact h
  | cons k ks ih => exact ih (h.startDebounce k)

theorem modeStands_unlatch (hp : s.partState ≠ .loading) (k : Nat) : ModeStands (s.unlatch k) := by
  refine modeStands_formMode ?_
  rw [State.raiseLine_frame]
  exact hp

theorem raiseLine_partState (s : State) (c : LineConfig) (k : EventKind) :
    (s.raiseLine c k).partState = s.partState := by
  rw [State.raiseLine_frame]

theorem applyTrigger_partState (s : State) (k : Nat) (edge : Bool) :
    (s.applyTrigger k edge).partState = s.partState := by
  unfold State.applyTrigger
  dsimp only
  split_ifs <;> simp [raiseLine_partState]

theorem modeStands_applyLine (hp : s.partState ≠ .loading) (k : Nat) (c : LineConfig) :
    ModeStands (s.applyLine k c) := by
  refine modeStands_formMode ?_
  rw [State.applyPolarity, State.followActive_frame]
  exact (applyTrigger_partState _ _ _).trans_ne hp

/-! ## Resets, LOADING and the alarm inputs -/

theorem partState_of_operating (h : s.operating = true) : s.partState ≠ .loading := by
  simp only [State.operating, Bool.and_eq_true, decide_eq_true_eq] at h
  exact h.2

/-- A reset gives NORMAL, no line in force and a clear flag (R192). -/
theorem modeFollows_resetValues (s : State) : ModeFollows s.resetValues :=
  (modeFollows_iff _).2 ⟨(formedMode_of_lines_nil rfl rfl).symm, fun _ => ⟨rfl, rfl⟩⟩

/-- The tables that are loaded meet lines at their reset values and a clear flag, which form NORMAL under every
configuration (R147, R190). -/
theorem ModeFollows.loadTables (h : ModeFollows s) (hp : s.partState = .loading) :
    ModeStands s.loadTables := by
  obtain ⟨hmode, hrest⟩ := (modeFollows_iff s).1 h
  obtain ⟨hlines, hflag⟩ := hrest hp
  have hnormal : s.mode = .normal := hmode.trans (formedMode_of_lines_nil hlines hflag)
  unfold State.loadTables
  split
  · refine ⟨hnormal.trans (Eq.symm ?_), nofun⟩
    exact formedMode_of_lines_nil hlines hflag
  · refine ⟨hnormal.trans (Eq.symm ?_), nofun⟩
    exact formedMode_of_lines_nil hlines hflag

theorem ModeFollows.execLoadingEnd (h : ModeFollows s) : Leaves ModeFollows (execLoadingEnd s) := by
  refine leaves_next ?_
  split
  · next hcond =>
    simp only [Bool.and_eq_true, decide_eq_true_eq] at hcond
    have hloaded := h.loadTables hcond.2
    refine (ModeStands.foldl_startDebounce ?_ lineNumbers).follows
    split_ifs
    · exact hloaded
    · exact hloaded.of_parts rfl
  · exact h

theorem ModeFollows.execAlarmInputChange (h : ModeFollows s) (k : Nat) (v : Level) :
    Leaves ModeFollows (execAlarmInputChange k v s) := by
  have hmoved : ModeFollows { s with inputs := s.inputs.set .high k v } := h.of_parts rfl
  refine leaves_next ?_
  dsimp only
  split_ifs with _ hworks
  · exact h
  · exact ((hmoved.stands (partState_of_operating hworks)).watchInput k v).follows
  · exact hmoved

theorem ModeFollows.execDebounceExpiry (h : ModeFollows s) (k : Nat) :
    Leaves ModeFollows (execDebounceExpiry k s) := by
  refine leaves_next ?_
  split
  · exact h
  · split_ifs with hworks
    · exact (modeStands_acceptLevel (s := s.reach _) (partState_of_operating hworks) k _).follows
    · exact h

/-! ## Requests (R173) -/

/-- A request is taken outside LOADING alone. -/
theorem ModeFollows.serve (h : ModeFollows s) {mine : List Byte → Bool}
    {handle : List Byte → State → Reply}
    (hhandle : ∀ p u, ModeStands u → ModeStands (handle p u).state) :
    Leaves ModeFollows (.next (s.serve mine handle)) := by
  refine leaves_next ?_
  rcases s.serve_cases mine handle with ⟨p, rest, ⟨-, hfree, -⟩, e⟩ | ⟨-, e⟩ <;> rw [e]
  · simp only [State.agentFree, Bool.and_eq_true] at hfree
    have htaken : ModeStands { s with requests := rest } :=
      (h.stands (partState_of_operating hfree.1.1)).of_parts rfl
    exact ((hhandle p _ htaken).of_parts rfl).follows
  · exact h

variable {p : List Byte} {need : Nat} {k : Reply}

theorem ModeStands.checkChange (h : ModeStands s) (hk : ModeStands k.state) :
    ModeStands (s.checkChange p need k).state :=
  checkChange_keeps h (h.of_parts rfl) hk

theorem ModeStands.checkCommand (h : ModeStands s) (hk : ModeStands k.state) :
    ModeStands (s.checkCommand p need k).state :=
  checkCommand_keeps h (h.of_parts rfl) hk

theorem handleRead_modeParts (p : List Byte) (u : State) :
    modeParts (handleRead p u).state = modeParts u := by
  have hpolicy : ∀ size record, modeParts (u.readPolicy p size record).state = modeParts u := by
    intro size record
    unfold State.readPolicy
    refine checkIndex_preserves ?_
    split <;> rfl
  have hway : modeParts (u.readWay p).state = modeParts u := by
    unfold State.readWay
    refine checkIndex_preserves ?_
    split <;> rfl
  refine checkLength_preserves ?_
  split
  case h_1 => exact hway
  case h_2 | h_3 | h_4 | h_5 => exact hpolicy _ _
  case h_14 | h_15 => rfl
  all_goals exact checkIndex_preserves rfl

theorem handleFind_modeParts (p : List Byte) (u : State) :
    modeParts (handleFind p u).state = modeParts u := by
  refine checkLength_preserves ?_
  split
  · rfl
  · split <;> rfl

theorem handleUndefined_modeParts (p : List Byte) (u : State) :
    modeParts (handleUndefined p u).state = modeParts u := by
  unfold handleUndefined
  split_ifs
  · rfl
  · exact checkChange_preserves rfl rfl
  · exact checkLength_preserves rfl

theorem ModeStands.startService (h : ModeStands s) (p : List Byte) :
    ModeStands (handleStartService p s).state :=
  h.checkCommand (ite_keeps ⟨h.1, nofun⟩ h)

/-! ## Every step -/

/-- Every command keeps the mode as it is formed: those that bear on it form it anew, a reset makes it NORMAL,
and the others leave all that it is formed from. -/
theorem ModeFollows.exec (h : ModeFollows s) (c : Instr) : Leaves ModeFollows (exec c s) := by
  cases c with
  -- commands whose every branch writes fields that do not bear on the mode
  | clockAdvance | saveMarkCleared verified | saveSectorsErased verified
  | saveTablesProgrammed verified | saveMarkWritten verified | sendPoll | decayExpiry u
  | holdExpiry u | sendAnswer | sendGToTRelay | receiverIdle port | receptionStart port
  | sendCancel | sendMrsp | sendNotice | sendTToGRelay | sendReport =>
    refine leaves_next (h.of_parts ?_)
    repeat' split
    all_goals rfl
  -- the ports and the Call Exchange
  | replyTimeExpiry => exact (execReplyTimeExpiry_mode s).mono fun _ => h.of_parts
  | pollReply r => exact (execPollReply_mode s r).mono fun _ => h.of_parts
  | presentReply r => exact (execPresentReply_mode s r).mono fun _ => h.of_parts
  | receptionEnd port r => exact (execReceptionEnd_mode s port r).mono fun _ => h.of_parts
  | receiveMreq r => exact (execReceiveMreq_mode s r).mono fun _ => h.of_parts
  | receiveGToTRelay r => exact (execReceiveGToTRelay_mode s r).mono fun _ => h.of_parts
  | receiveAssign r => exact (execReceiveAssign_mode s r).mono fun _ => h.of_parts
  | receiveDecline r => exact (execReceiveDecline_mode s r).mono fun _ => h.of_parts
  | answerTimeout g tag => exact (execAnswerTimeout_mode s g tag).mono fun _ => h.of_parts
  | sendCall => exact (execSendCall_mode s).mono fun _ => h.of_parts
  | repeatGuardExpiry n | transferWindowExpiry n =>
    exact leaves_next (h.of_parts (modeParts_expireTrip s n _))
  -- resets and LOADING
  | fullReset => exact leaves_next (h.of_parts (modeParts_endSave s))
  | fullResetEnd =>
    refine leaves_next ?_
    split
    · exact (modeFollows_resetValues s).of_parts rfl
    · exact h
  | restartMade =>
    refine leaves_next ?_
    split
    · exact modeFollows_resetValues s
    · exact h
  | loadingEnd => exact h.execLoadingEnd
  -- the alarm lines
  | alarmInputChange i v => exact h.execAlarmInputChange i v
  | debounceExpiry i => exact h.execDebounceExpiry i
  | ackLine =>
    exact h.serve fun _ _ hu => hu.checkCommand (checkIndex_keeps hu
      (ite_keeps (ite_keeps hu (modeStands_unlatch hu.2 _)) hu))
  | writeAlarmLine =>
    exact h.serve fun _ _ hu => hu.checkChange (checkIndex_keeps hu
      (checkField_keeps hu (modeStands_applyLine hu.2 _ _)))
  | eraseAlarmLine =>
    exact h.serve fun _ _ hu => hu.checkChange (checkIndex_keeps hu (modeStands_applyLine hu.2 _ _))
  | enterRecall | leaveRecall =>
    exact h.serve fun _ _ hu => hu.checkCommand (modeStands_formMode hu.2)
  | startService => exact h.serve fun p _ hu => hu.startService p
  -- reading requests
  | read => exact h.serve fun p u hu => hu.of_parts (handleRead_modeParts p u)
  | find => exact h.serve fun p u hu => hu.of_parts (handleFind_modeParts p u)
  | readStatus => exact h.serve fun _ _ hu => checkLength_keeps hu hu
  | undefinedOperation => exact h.serve fun p u hu => hu.of_parts (handleUndefined_modeParts p u)
  -- WRITE and ERASE of the other tables
  | writeCredential =>
    exact h.serve fun _ _ hu => hu.checkChange (checkField_keeps hu
      (hu.of_parts (modeParts_placeEntry _ _)))
  | eraseCredential =>
    exact h.serve fun _ _ hu => hu.checkChange (hu.of_parts (modeParts_eraseKey _ _))
  | writeProfile | writeTenant | writeLanding =>
    exact h.serve fun _ _ hu => hu.checkChange (checkIndex_keeps hu
      (checkField_keeps hu (hu.of_parts (modeParts_setStandby _ _))))
  | writeHoliday | eraseProfile | eraseTenant | eraseHoliday | eraseLanding =>
    exact h.serve fun _ _ hu => hu.checkChange (checkIndex_keeps hu
      (hu.of_parts (modeParts_setStandby _ _)))
  | writeGroup | writeSkyLobby | writeFormat | writeFacilityRange =>
    exact h.serve fun _ _ hu => hu.checkChange (checkIndex_keeps hu
      (checkField_keeps hu (hu.of_parts (by rfl))))
  | eraseSkyLobby | eraseFormat | eraseFacilityRange =>
    exact h.serve fun _ _ hu => hu.checkChange (checkIndex_keeps hu (hu.of_parts (by rfl)))
  | eraseGroup =>
    exact h.serve fun _ _ hu => hu.checkChange (checkIndex_keeps hu
      (ite_keeps hu (hu.of_parts (by rfl))))
  | writeTerminal =>
    exact h.serve fun _ _ hu => hu.checkChange (checkIndex_keeps hu
      (checkField_keeps hu (hu.of_parts (modeParts_configureTerminal _ _ _))))
  | eraseTerminal =>
    exact h.serve fun _ _ hu => hu.checkChange (checkIndex_keeps hu
      (ite_keeps hu (hu.of_parts (modeParts_eraseTerminal _ _))))
  | writeSettings =>
    refine h.serve fun _ _ hu => hu.checkChange (checkIndex_keeps hu ?_)
    split
    · exact hu
    · exact hu.of_parts rfl
  -- the other commands of the head-end
  | switchBanks | saveImage => exact h.serve fun _ _ hu => hu.checkChange (hu.of_parts (by rfl))
  | copyActiveToStandby =>
    exact h.serve fun _ _ hu => hu.checkChange (hu.of_parts (modeParts_setStandby _ _))
  | restart | lockZones | unlockZones =>
    exact h.serve fun _ _ hu => hu.checkCommand (hu.of_parts (by rfl))
  | setTime | clearEvents =>
    exact h.serve fun _ _ hu => hu.checkCommand (checkField_keeps hu (hu.of_parts (by rfl)))
  | setSiteCode =>
    exact h.serve fun _ _ hu => hu.checkCommand (ite_keeps hu (hu.of_parts (by rfl)))
  | releaseTerminal =>
    exact h.serve fun _ _ hu => hu.checkCommand (checkIndex_keeps hu (hu.of_parts (by rfl)))
  | holdGroup =>
    exact h.serve fun _ _ hu => hu.checkCommand (checkIndex_keeps hu
      (hu.of_parts (modeParts_holdGroup _ _)))
  | resumeGroup =>
    exact h.serve fun _ _ hu => hu.checkCommand (checkIndex_keeps hu
      (hu.of_parts (modeParts_resumeGroup _ _)))

theorem ModeFollows.idle (h : ModeFollows s) : ModeFollows s.idle := by
  unfold State.idle
  split_ifs
  · exact h
  · exact h.of_parts rfl

end

/-- Settles O59: whatever moves the flag, a line or a line's configuration outside LOADING ends by forming the
mode anew (`modeStands_formMode`), and LOADING begins and ends with what forms NORMAL. -/
theorem buildingModeFollows : Obligations.BuildingModeFollows :=
  kept_of_exec (fun _ h => h.idle) (fun _ _ h => h.of_parts rfl) fun _ c h => h.exec c

end Sys2Proof.Safety
end

section
/-! SUPPORT. A move of one alarm line, with its events, up to the forming of the building mode and with it (R145, R148, R149, R151, R152, R155). -/

namespace Sys2Proof.Safety

open Sys2Proof.Machine

/-! ## The events of a change of line state (R152) -/

/-- What a line raises that goes from state `a` to state `b`: ALARM_RAISED when it leaves NORMAL and
ALARM_CLEARED when it returns, unless it is masked. -/
def statusEvents (mask : Bool) (a b : LineStatus) : List EventKind :=
  onlyIf (mask = false ∧ a = .normal ∧ b ≠ .normal) .alarmRaised ++
    onlyIf (mask = false ∧ a ≠ .normal ∧ b = .normal) .alarmCleared

section
variable {mask : Bool} {a b : LineStatus}

theorem statusEvents_leaving (ha : a = .normal) (hb : b ≠ .normal) :
    statusEvents mask a b = onlyIf (mask = false) .alarmRaised := by
  simp [statusEvents, onlyIf, ha, hb]

theorem statusEvents_returning (ha : a ≠ .normal) (hb : b = .normal) :
    statusEvents mask a b = onlyIf (mask = false) .alarmCleared := by
  simp [statusEvents, onlyIf, ha, hb]

theorem statusEvents_staying (h : a = .normal ↔ b = .normal) : statusEvents mask a b = [] := by
  simp [statusEvents, onlyIf, h]

end

/-! ## One line moves -/

/-- Between the states there is a change of alarm lines, of their configurations and of events alone. -/
def LineMoved (s u : State) : Prop :=
  ∃ configs lines events notices, u = { s with
    tables := { s.tables with alarmLines := configs }
    lines := lines, events := events, notices := notices }

/-- From `s` to `u` line `k` has taken the configuration `c` and the line state `st`, its accepted level and its
timer standing as they were, with the events `ks`. -/
structure LineStep (s u : State) (k : Nat) (c : LineConfig) (st : LineStatus) (ks : List EventKind) :
    Prop where
  moved : LineMoved s u
  config : ∀ j, u.lineConfig j = if j = k then c else s.lineConfig j
  line : ∀ j, u.line j = if j = k then { s.line k with status := st } else s.line j
  raised : Raised s u ks

section
variable {s u v : State} {k : Nat} {c c' : LineConfig} {st st' : LineStatus} {ks js : List EventKind}

theorem LineMoved.trans (h : LineMoved s u) (h' : LineMoved u v) : LineMoved s v := by
  obtain ⟨_, _, _, _, rfl⟩ := h
  obtain ⟨_, _, _, _, rfl⟩ := h'
  exact ⟨_, _, _, _, rfl⟩

theorem LineMoved.enables (h : LineMoved s u) :
    u.tables.settings.enables = s.tables.settings.enables := by
  obtain ⟨_, _, _, _, rfl⟩ := h
  rfl

theorem LineStep.config_same (h : LineStep s u k c st ks) : u.lineConfig k = c :=
  (h.config k).trans (if_pos rfl)

theorem LineStep.line_same (h : LineStep s u k c st ks) :
    u.line k = { s.line k with status := st } :=
  (h.line k).trans (if_pos rfl)

/-- Two moves of a line, one after the other. -/
theorem LineStep.trans (h : LineStep s u k c st ks) (h' : LineStep u v k c' st' js) :
    LineStep s v k c' st' (ks ++ js) where
  moved := h.moved.trans h'.moved
  config j := by
    rw [h'.config, h.config]
    split_ifs <;> rfl
  line j := by
    rw [h'.line, h.line_same, h.line]
    split_ifs <;> rfl
  raised := h.raised.append h.moved.enables h'.raised

/-- The line raises an event, unless it is masked. -/
theorem LineStep.raiseLine (h : LineStep s u k c st []) (c' : LineConfig) (e : EventKind) :
    LineStep s (u.raiseLine c' e) k c st (onlyIf (c'.mask = false) e) where
  moved := h.moved.trans ⟨u.tables.alarmLines, u.lines, _, _, u.raiseLine_frame c' e⟩
  config j := by
    rw [u.raiseLine_frame c' e]
    exact h.config j
  line j := by
    rw [u.raiseLine_frame c' e]
    exact h.line j
  raised := h.raised.append h.moved.enables (raised_raiseLine u c' e)

end

section
variable (s : State) (k : Nat)

theorem setLineConfig_lineConfig (j : Nat) (c : LineConfig) :
    (s.setLineConfig k c).lineConfig j = if j = k then c else s.lineConfig j :=
  (Store.get_set ({} : LineConfig) s.tables.alarmLines k j c).trans (if_congr eq_comm rfl rfl)

theorem lineStep_refl : LineStep s s k (s.lineConfig k) (s.line k).status [] where
  moved := ⟨_, _, _, _, rfl⟩
  config j := by
    split_ifs with hj
    · rw [hj]
    · rfl
  line j := by
    split_ifs with hj
    · rw [hj]
    · rfl
  raised := .refl s

/-- A configuration is stored and the line state stays. -/
theorem lineStep_setLineConfig (c : LineConfig) :
    LineStep s (s.setLineConfig k c) k c (s.line k).status [] where
  moved := ⟨_, _, _, _, rfl⟩
  config j := setLineConfig_lineConfig s k j c
  line j := by
    split_ifs with hj
    · rw [hj]
      rfl
    · rfl
  raised := ⟨fun _ => rfl, rfl⟩

/-- A line state is written and the configuration stays. -/
theorem lineStep_setStatus (st : LineStatus) :
    LineStep s (s.setLine k { s.line k with status := st }) k (s.lineConfig k) st [] where
  moved := ⟨_, _, _, _, rfl⟩
  config j := by
    split_ifs with hj
    · rw [hj]
      rfl
    · rfl
  line j := setLine_line s k j _
  raised := ⟨fun _ => rfl, rfl⟩

/-- Both are written. -/
theorem lineStep_setBoth (c : LineConfig) (st : LineStatus) :
    LineStep s ((s.setLineConfig k c).setLine k { s.line k with status := st }) k c st [] := by
  have hset := lineStep_setStatus (s.setLineConfig k c) k st
  rw [State.setLineConfig_lineConfig_same] at hset
  exact (lineStep_setLineConfig s k c).trans hset

/-! ## Activeness and trigger (R148, R149, R151) -/

/-- R148 and R149 as cases: a line that has become active, one that no longer is, and any other. -/
theorem followStatus_eq (edge was is_ : Bool) (st : LineStatus) : followStatus edge was is_ st =
    if was = false ∧ is_ = true then (if edge then .latched else .active)
    else if was = true ∧ is_ = false ∧ edge = false then .normal
    else st := by
  cases edge <;> cases was <;> cases is_ <;> rfl

/-- A line follows its activeness, with the events of that. -/
theorem lineStep_followActive (was : Bool) :
    let st := followStatus (s.lineConfig k).edge was (lineActive (s.lineConfig k) (s.line k))
      (s.line k).status
    LineStep s (s.followActive k was) k (s.lineConfig k) st
      (statusEvents (s.lineConfig k).mask (s.line k).status st) := by
  intro st
  have hset := lineStep_setStatus s k st
  unfold State.followActive
  dsimp only
  split_ifs with hleave hreturn
  · simp only [Bool.and_eq_true, decide_eq_true_eq] at hleave
    rw [statusEvents_leaving hleave.1 hleave.2]
    exact hset.raiseLine _ _
  · simp only [Bool.and_eq_true, decide_eq_true_eq] at hreturn
    rw [statusEvents_returning hreturn.1 hreturn.2]
    exact hset.raiseLine _ _
  · simp only [Bool.and_eq_true, decide_eq_true_eq, not_and, not_not] at hleave hreturn
    rw [statusEvents_staying ⟨hleave, not_imp_not.1 hreturn⟩]
    exact hset

/-- The state that a line under the configuration `c` takes as its trigger becomes EDGE or LEVEL (R151). -/
def retriggered (c : LineConfig) (l : LineState) (edge : Bool) : LineStatus :=
  if edge = c.edge then l.status
  else if edge then (if l.status = .active then .latched else l.status)
  else if lineActive c l then .active else .normal

theorem lineStep_applyTrigger (edge : Bool) :
    let st := retriggered (s.lineConfig k) (s.line k) edge
    LineStep s (s.applyTrigger k edge) k { s.lineConfig k with edge := edge } st
      (statusEvents (s.lineConfig k).mask (s.line k).status st) := by
  intro st
  have hset := lineStep_setBoth s k { s.lineConfig k with edge := edge }
  have hstored := lineStep_setLineConfig s k { s.lineConfig k with edge := edge }
  have hstay : st = (s.line k).status → statusEvents (s.lineConfig k).mask (s.line k).status st = [] :=
    fun h => statusEvents_staying (by rw [h])
  unfold State.applyTrigger
  dsimp only
  split_ifs with hsame hedge hlive hactive hnormal hnormal
  · subst hsame
    have hst : st = (s.line k).status := if_pos rfl
    rw [hstay hst, hst]
    exact lineStep_refl s k
  all_goals
    have hmoved : st = if edge then (if (s.line k).status = .active then .latched else (s.line k).status)
        else if lineActive (s.lineConfig k) (s.line k) then .active else .normal :=
      if_neg (Ne.symm hsame)
  · have hst : st = .latched := by simp [hmoved, hedge, hlive]
    rw [hst, statusEvents_staying (by simp [hlive])]
    exact hset .latched
  · have hst : st = (s.line k).status := by simp [hmoved, hedge, hlive]
    rw [hstay hst, hst]
    exact hstored
  · have hst : st = .active := by simp [hmoved, hedge, hactive]
    rw [hst, statusEvents_leaving hnormal (by decide)]
    exact (hset .active).raiseLine _ _
  · have hst : st = .active := by simp [hmoved, hedge, hactive]
    rw [hst, statusEvents_staying (by simp [hnormal])]
    exact hset .active
  · have hst : st = .normal := by simp [hmoved, hedge, hactive]
    rw [hst, statusEvents_staying (by simp [hnormal])]
    exact hset .normal
  · have hst : st = .normal := by simp [hmoved, hedge, hactive]
    rw [hst, statusEvents_returning hnormal rfl]
    exact (hset .normal).raiseLine _ _

/-- The polarity is stored and the line follows the activeness that it makes of the accepted level. -/
theorem lineStep_applyPolarity (low : Bool) :
    let c := { s.lineConfig k with activeLow := low }
    let st := followStatus c.edge (lineActive (s.lineConfig k) (s.line k)) (lineActive c (s.line k))
      (s.line k).status
    LineStep s (s.applyPolarity k low) k c st (statusEvents c.mask (s.line k).status st) := by
  intro c st
  have hfollow := lineStep_followActive (s.setLineConfig k c) k (lineActive (s.lineConfig k) (s.line k))
  rw [State.setLineConfig_lineConfig_same] at hfollow
  exact (lineStep_setLineConfig s k c).trans hfollow

/-- The line's configuration is applied; the mode is still to be formed. -/
def configured (c : LineConfig) : State :=
  ((s.setLineConfig k { c with edge := (s.lineConfig k).edge, activeLow := (s.lineConfig k).activeLow }
    ).applyTrigger k c.edge).applyPolarity k c.activeLow

theorem applyLine_eq (c : LineConfig) : s.applyLine k c = (configured s k c).formMode := rfl

/-- The line state in which applying a configuration ends, `between` being the one that its trigger gives
(R151). -/
def repolarized (old new : LineConfig) (l : LineState) (between : LineStatus) : LineStatus :=
  if lineActive old l = false ∧ lineActive new l = true then (if new.edge then .latched else .active)
  else if lineActive old l = true ∧ lineActive new l = false ∧ new.edge = false then .normal
  else between

/-- A configuration is applied in two steps, the trigger under the old polarity and then the polarity. -/
theorem lineStep_configured (c : LineConfig) :
    let l := s.line k
    let between := retriggered (s.lineConfig k) l c.edge
    let ends := repolarized (s.lineConfig k) c l between
    LineStep s (configured s k c) k c ends (statusEvents c.mask l.status between ++
      onlyIf (c.mask = false ∧ between = .normal ∧ ends ≠ .normal) .alarmRaised ++
      onlyIf (c.mask = false ∧ between ≠ .normal ∧ ends = .normal) .alarmCleared) := by
  intro l between ends
  let stored := s.setLineConfig k
    { c with edge := (s.lineConfig k).edge, activeLow := (s.lineConfig k).activeLow }
  have hstore := lineStep_setLineConfig s k
    { c with edge := (s.lineConfig k).edge, activeLow := (s.lineConfig k).activeLow }
  have htrigger := lineStep_applyTrigger stored k c.edge
  rw [show stored.lineConfig k = _ from hstore.config_same] at htrigger
  have hpolarity := lineStep_applyPolarity (stored.applyTrigger k c.edge) k c.activeLow
  rw [htrigger.config_same, htrigger.line_same] at hpolarity
  simp only [followStatus_eq] at hpolarity
  rw [List.append_assoc]
  exact (hstore.trans htrigger).trans hpolarity

end

/-! ## The mode follows (R155) -/

section
variable {s u : State} {k : Nat} {c : LineConfig} {st : LineStatus} {ks : List EventKind}

/-- What a move of lines and the forming of the mode after it can touch. -/
theorem LineMoved.formMode_frame (h : LineMoved s u) : u.formMode = { s with
    tables := { s.tables with alarmLines := u.formMode.tables.alarmLines }
    lines := u.formMode.lines, mode := u.formMode.mode, groups := u.formMode.groups
    cancels := u.formMode.cancels, trips := u.formMode.trips, answers := u.formMode.answers
    terminals := u.formMode.terminals, events := u.formMode.events
    notices := u.formMode.notices } := by
  obtain ⟨_, _, _, _, rfl⟩ := h
  rw [State.formMode_frame]

/-- Without a change of the mode the lines and the events are all. -/
theorem LineMoved.formMode_of_mode (h : LineMoved s u) (hmode : u.formMode.mode = s.mode) :
    u.formMode = { s with
      tables := { s.tables with alarmLines := u.formMode.tables.alarmLines }
      lines := u.formMode.lines, events := u.formMode.events, notices := u.formMode.notices } := by
  obtain ⟨_, _, _, _, rfl⟩ := h
  rw [State.formMode_mode] at hmode
  rw [show State.formMode _ = _ from if_pos hmode]

theorem LineStep.formMode_line (h : LineStep s u k c st ks) (j : Nat) :
    u.formMode.line j = if j = k then { s.line k with status := st } else s.line j := by
  rw [← h.line, State.formMode_frame]
  rfl

theorem LineStep.formMode_config (h : LineStep s u k c st ks) (j : Nat) :
    u.formMode.lineConfig j = if j = k then c else s.lineConfig j := by
  rw [← h.config, State.formMode_frame]
  rfl

/-- The line's events come before the event of the mode. -/
theorem LineStep.raised_formMode (h : LineStep s u k c st ks) :
    Raised s u.formMode (ks ++ modeEvents s u.formMode) := by
  have hmode : modeEvents u u.formMode = modeEvents s u.formMode := by
    obtain ⟨_, _, _, _, rfl⟩ := h.moved
    rfl
  exact h.raised.append h.moved.enables (hmode ▸ Safety.raised_formMode u)

theorem LineMoved.workFollowsMode (h : LineMoved s u) : WorkFollowsMode s u.formMode := by
  have hparts : workParts s = workParts u := by
    obtain ⟨_, _, _, _, rfl⟩ := h
    rfl
  exact (workFollowsMode_formMode u).of_parts hparts rfl

/-- After the forming the mode is that of the flag and of the lines as they then are. -/
theorem LineMoved.formMode_mode_iff (h : LineMoved s u) : u.formMode.mode = .recall ↔
    s.recallFlag = true ∨ ∃ j ≤ 7, (u.formMode.line j).status ≠ .normal ∧
      (u.formMode.lineConfig j).mask = false ∧ (u.formMode.lineConfig j).action = .recall := by
  have hline : u.formMode.line = u.line := by
    rw [State.formMode_frame]
    rfl
  have hconfig : u.formMode.lineConfig = u.lineConfig := by
    rw [State.formMode_frame]
    rfl
  have hflag : s.recallFlag = u.recallFlag := by
    obtain ⟨_, _, _, _, rfl⟩ := h
    rfl
  rw [hline, hconfig, hflag, State.formMode_mode, formedMode_iff]

end

end Sys2Proof.Safety
end

section
/-! SUPPORT. The acceptance of a level at an alarm input, and the proof of O32 (R142, R146 to R149, R152, R155, R156, R158). -/

namespace Sys2Proof.Safety

open Sys2Proof.Machine

/-- What the acceptance of level `v` at line `k` leaves of the lines, the events, the mode and the work in
hand. -/
def LevelAccepted (s : State) (k : Nat) (v : Level) (t : State) : Prop :=
  let c := s.lineConfig k
  let l := s.line k
  let isActive := fun x : Option Level => decide (x = some (if c.activeLow then .low else .high))
  (∀ j, j ≠ k → t.line j = s.line j) ∧
  t.line k = { l with
    accepted := some v, timer := none
    status :=
      if isActive l.accepted = false ∧ isActive (some v) = true then
        (if c.edge then .latched else .active)
      else if isActive l.accepted = true ∧ isActive (some v) = false ∧ c.edge = false then
        .normal
      else l.status } ∧
  Raised s t (statusEvents c.mask l.status (t.line k).status ++ modeEvents s t) ∧
  WorkFollowsMode s t ∧
  (t.mode = .recall ↔ s.recallFlag = true ∨ ∃ j ≤ 7, (t.line j).status ≠ .normal ∧
    (s.lineConfig j).mask = false ∧ (s.lineConfig j).action = .recall)

section
variable (s : State) (k : Nat) (v : Level)

/-- The level is stored and the timer stopped; the line state is still to follow. -/
def levelStored : State := s.setLine k { s.line k with accepted := some v, timer := none }

theorem acceptLevel_eq : s.acceptLevel k v =
    ((levelStored s k v).followActive k (lineActive (s.lineConfig k) (s.line k))).formMode := rfl

theorem levelStored_line (j : Nat) : (levelStored s k v).line j =
    if j = k then { s.line k with accepted := some v, timer := none } else s.line j :=
  setLine_line s k j _

/-- The line's move starts from its new accepted level. -/
theorem levelAccepted_acceptLevel : LevelAccepted s k v (s.acceptLevel k v) := by
  have hstep := lineStep_followActive (levelStored s k v) k (lineActive (s.lineConfig k) (s.line k))
  have hconfig : (levelStored s k v).lineConfig = s.lineConfig := rfl
  rw [hconfig, followStatus_eq, levelStored_line, if_pos rfl] at hstep
  have hline := hstep.formMode_line
  have hsame := (hline k).trans (if_pos rfl)
  rw [levelStored_line, if_pos rfl] at hsame
  have hconfigs : ∀ j, (s.acceptLevel k v).lineConfig j = s.lineConfig j := by
    intro j
    rw [State.acceptLevel_frame]
    rfl
  refine ⟨fun j hj => ?_, hsame, ?_, ?_, ?_⟩
  · rw [acceptLevel_eq, hline, if_neg hj, levelStored_line, if_neg hj]
  · rw [acceptLevel_eq, hsame]
    exact hstep.raised_formMode.of_start (fun _ => rfl) rfl rfl
  · exact hstep.moved.workFollowsMode.of_parts rfl rfl
  · have hmode := hstep.moved.formMode_mode_iff
    rw [← acceptLevel_eq] at hmode
    simp only [hconfigs] at hmode
    exact hmode

variable {s k v} in
/-- The raw inputs and the time do not bear on an acceptance. -/
theorem LevelAccepted.of_inputs {inputs : Store Level} {now : Nat} {t : State}
    (h : LevelAccepted { s with inputs := inputs, now := now } k v t) : LevelAccepted s k v t := by
  obtain ⟨hother, hline, hraised, hwork, hmode⟩ := h
  exact ⟨hother, hline, hraised.of_start (fun _ => rfl) rfl rfl, hwork.of_parts rfl rfl, hmode⟩

theorem acceptLevel_of_mode (h : (s.acceptLevel k v).mode = s.mode) : s.acceptLevel k v = { s with
    lines := (s.acceptLevel k v).lines, events := (s.acceptLevel k v).events
    notices := (s.acceptLevel k v).notices } := by
  have hmoved := (lineStep_followActive (levelStored s k v) k
    (lineActive (s.lineConfig k) (s.line k))).moved.formMode_of_mode h
  have htables := congrArg State.tables (s.acceptLevel_frame k v)
  rw [acceptLevel_eq] at htables ⊢
  rw [hmoved, htables]
  rfl

theorem debounceTime_eq_zero (code : Nat) : debounceTime code = 0 ↔ code = 0 := by
  unfold debounceTime
  split <;> simp_all

end

/-! ## The two commands -/

theorem exec_alarmInputChange {s : State} {k : Nat} {v : Level} (hworks : Working s) (hk : k ≤ 7)
    (hv : s.input k ≠ v) : exec (.alarmInputChange k v) s =
      .next (({ s with inputs := s.inputs.set .high k v } : State).watchInput k v) := by
  refine congrArg Host.Outcome.next ((if_neg ?_).trans (if_pos hworks.operating))
  simp [hv, Nat.not_lt.2 hk]

theorem exec_debounceExpiry {s : State} {k d : Nat} (hworks : Working s)
    (hd : (s.line k).timer = some d) :
    exec (.debounceExpiry k) s = .next ((s.reach d).acceptLevel k (s.input k)) := by
  change execDebounceExpiry k s = _
  unfold execDebounceExpiry
  rw [hd]
  exact congrArg _ (if_pos hworks.operating)

/-- Settles O32: the change is watched by `State.watchInput`, and an acceptance is a move of the one line that
the mode follows. -/
theorem alarmInputsAreDebounced : Obligations.AlarmInputsAreDebounced := by
  intro s k v hworks c l moved isActive follows
  refine ⟨fun hk hv => ?_, fun d hd hv => ?_⟩
  · have hwatch := exec_alarmInputChange hworks hk hv
    refine ⟨fun hsame => ?_, fun hother hcode => ?_, fun hother hcode => ?_⟩
    · rw [hwatch]
      exact congrArg _ (if_pos hsame)
    · rw [hwatch]
      exact congrArg _ ((if_neg hother).trans (if_neg (mt (debounceTime_eq_zero _).1 hcode)))
    · have haccept : moved.watchInput k v = moved.acceptLevel k (moved.input k) :=
        (if_neg hother).trans (if_pos ((debounceTime_eq_zero _).2 hcode))
      have hinput : moved.input k = v := Store.get_set_same Level.high s.inputs k v
      rw [hinput] at haccept
      refine ⟨_, hwatch.trans (congrArg _ haccept), ?_, moved.acceptLevel_frame k v,
        acceptLevel_of_mode moved k v⟩
      exact (levelAccepted_acceptLevel moved k v).of_inputs
  · have hexpiry := exec_debounceExpiry hworks hd
    rw [hv] at hexpiry
    refine ⟨_, hexpiry, ?_, (s.reach d).acceptLevel_frame k v, acceptLevel_of_mode (s.reach d) k v⟩
    exact (levelAccepted_acceptLevel (s.reach d) k v).of_inputs

end Sys2Proof.Safety
end

section
/-! SUPPORT. WRITE and ERASE of an alarm line's configuration, and the proof of O34 (R142, R145, R151, R152, R155, R156, R158, R176). -/

namespace Sys2Proof.Safety

open Sys2Proof.Machine

/-! ## The configuration a WRITE carries (12.4, R145) -/

theorem lineFieldsGood_iff (p : List Byte) : lineFieldsGood p = true ↔
    numAt p 10 1 ≤ 1 ∧ numAt p 11 1 ≤ 1 ∧ numAt p 13 1 ≤ 1 ∧ numAt p 14 1 ≤ 2 := by
  simp [lineFieldsGood, and_assoc]

theorem actionOf_eq (n : Nat) :
    actionOf n = if n = 0 then .notify else if n = 1 then .lockZones else .recall := by
  unfold actionOf
  split
  · rfl
  · rfl
  · next h0 h1 => rw [if_neg h0, if_neg h1]

theorem actionOf_code {n : Nat} (h : n ≤ 2) : (actionOf n).code = n := by
  interval_cases n <;> rfl

theorem boolByte_decide {n : Nat} (h : n ≤ 1) : boolByte (decide (n = 1)) = byteOf n := by
  interval_cases n <;> rfl

theorem zoneSetBytes_zoneSetAt (p : List Byte) (i : Nat) :
    zoneSetBytes (zoneSetAt p i) = bytesOfNat 2 (numAt p i 2) := by
  have hlt : numAt p i 2 < 2 ^ 16 := numAt_lt p i 2
  rw [zoneSetBytes, zoneSetAt, BitVec.toNat_ofNat, Nat.mod_eq_of_lt hlt]

/-- The response to a WRITE carries the six fields as they are stored. -/
theorem lineBytes_lineAt {p : List Byte} (h : lineFieldsGood p = true) : lineBytes (lineAt p) =
    [byteOf (numAt p 10 1), byteOf (numAt p 11 1), byteOf (min 3 (numAt p 12 1)),
      byteOf (numAt p 13 1), byteOf (numAt p 14 1)] ++ bytesOfNat 2 (numAt p 15 2) := by
  obtain ⟨hlow, hedge, hmask, haction⟩ := (lineFieldsGood_iff p).1 h
  unfold lineBytes lineAt
  rw [boolByte_decide hlow, boolByte_decide hedge, boolByte_decide hmask, actionOf_code haction,
    zoneSetBytes_zoneSetAt]

/-! ## What an applied configuration leaves (R151, R152, R155) -/

/-- What a WRITE or an ERASE of line `k` leaves when it is answered with `code` and `data` and the line takes the
configuration `new`. -/
def LineBecomes (s : State) (p : List Byte) (rest : List (List Byte)) (k : Nat) (new : LineConfig)
    (code : Code) (data : List Byte) (t : State) : Prop :=
  let old := s.lineConfig k
  let l := s.line k
  t = { answered s p rest code data with
    tables := { s.tables with alarmLines := t.tables.alarmLines }
    lines := t.lines, mode := t.mode, groups := t.groups, cancels := t.cancels
    trips := t.trips, answers := t.answers, terminals := t.terminals
    events := t.events, notices := t.notices } ∧
  (t.mode = s.mode → t = { answered s p rest code data with
    tables := { s.tables with alarmLines := t.tables.alarmLines }
    lines := t.lines, events := t.events, notices := t.notices }) ∧
  (∀ j, t.lineConfig j = if j = k then new else s.lineConfig j) ∧
  (∀ j, j ≠ k → t.line j = s.line j) ∧
  let between := retriggered old l new.edge
  let ends := repolarized old new l between
  t.line k = { l with status := ends } ∧
  Raised s t (statusEvents new.mask l.status between ++
    onlyIf (new.mask = false ∧ between = .normal ∧ ends ≠ .normal) .alarmRaised ++
    onlyIf (new.mask = false ∧ between ≠ .normal ∧ ends = .normal) .alarmCleared ++
    modeEvents s t) ∧
  WorkFollowsMode s t ∧
  (t.mode = .recall ↔ s.recallFlag = true ∨ ∃ j ≤ 7, (t.line j).status ≠ .normal ∧
    (t.lineConfig j).mask = false ∧ (t.lineConfig j).action = .recall)

/-- The state with the request taken and the configuration applied, and then the response placed. -/
theorem lineBecomes_applyLine (s : State) (p : List Byte) (rest : List (List Byte)) (k : Nat)
    (new : LineConfig) (code : Code) (data : List Byte) {t : State}
    (ht : ({ s with requests := rest } : State).applyLine k new = t) :
    LineBecomes s p rest k new code data { t with
      responses := t.responses ++ [⟨p.getD 0 0, p.getD 1 0, code, data⟩] } := by
  have hstep := lineStep_configured { s with requests := rest } k new
  have hline := hstep.formMode_line
  have hconfig := hstep.formMode_config
  have hraised := hstep.raised_formMode
  have hframe := hstep.moved.formMode_frame
  have hsame := hstep.moved.formMode_of_mode
  have hwork := hstep.moved.workFollowsMode
  have hmode := hstep.moved.formMode_mode_iff
  rw [← applyLine_eq, ht] at hline hconfig hraised hframe hsame hwork hmode
  refine ⟨?_, fun h => ?_, hconfig, fun j hj => (hline j).trans (if_neg hj),
    (hline k).trans (if_pos rfl), ?_, hwork.of_parts rfl rfl, hmode⟩
  · rw [hframe]
    rfl
  · rw [hsame h]
    rfl
  · exact (hraised.of_start (u := s) (fun _ => rfl) rfl rfl).of_end rfl rfl

theorem exec_writeAlarmLine (s : State) :
    exec .writeAlarmLine s = .next (s.serve (isTableOp 3 11) handleWriteAlarmLine) := rfl

theorem exec_eraseAlarmLine (s : State) :
    exec .eraseAlarmLine s = .next (s.serve (isTableOp 4 11) handleEraseAlarmLine) := rfl

/-- Settles O34: the checks pass or refuse, and an applied configuration moves the one line in two steps that
the mode follows (`lineStep_configured`, `lineBecomes_applyLine`). -/
theorem alarmLineWriteTakesEffect : Obligations.AlarmLineWriteTakesEffect := by
  intro s p rest k old l activeAt retriggered becomes
  refine ⟨fun h => ⟨fun hk => ?_, fun hk hbad => ?_, fun hk hlow hedge hmask haction => ?_⟩,
    fun h => ⟨fun hk => ?_, fun hk => ?_⟩⟩
  · exact h.refused (exec_writeAlarmLine s) rfl (checkIndex_le_refuse _ _ hk)
  · refine h.refused (exec_writeAlarmLine s) rfl ((checkIndex_le_pass _ _ hk).trans
      (checkField_refuse _ (mt (lineFieldsGood_iff p).1 ?_) _))
    omega
  · intro action
    have hgood := (lineFieldsGood_iff p).2 ⟨hlow, hedge, hmask, haction⟩
    have hcode : (if 3 < numAt p 12 1 then Code.okClamped else .ok) =
        if decide (3 < numAt p 12 1) = true then .okClamped else .ok := by simp
    have hnew : (⟨numAt p 10 1 = 1, numAt p 11 1 = 1, min 3 (numAt p 12 1), numAt p 13 1 = 1, action,
        BitVec.ofNat 16 (numAt p 15 2)⟩ : LineConfig) = lineAt p := by
      rw [lineAt, actionOf_eq]
      rfl
    rw [hnew, hcode, ← lineBytes_lineAt hgood]
    exact ⟨_, h.done (exec_writeAlarmLine s) rfl ((checkIndex_le_pass _ _ hk).trans
      (State.checkField_pass _ _ _ hgood)), lineBecomes_applyLine s p rest k _ _ _ rfl⟩
  · exact h.refused (exec_eraseAlarmLine s) rfl (checkIndex_le_refuse _ _ hk)
  · exact ⟨_, h.done (exec_eraseAlarmLine s) rfl (checkIndex_le_pass _ _ hk),
      lineBecomes_applyLine s p rest k {} .ok [] rfl⟩

end Sys2Proof.Safety
end

section
/-! SUPPORT. ENTER_RECALL and LEAVE_RECALL, LOCK_ZONES and UNLOCK_ZONES, and the proofs of O33 and O35 (R142, R153 to R156, R158). -/

namespace Sys2Proof.Safety

open Sys2Proof.Machine

/-! ## The recall flag (R155) -/

theorem exec_enterRecall (s : State) :
    exec .enterRecall s = .next (s.serve (isOp 29) handleEnterRecall) := rfl

theorem exec_leaveRecall (s : State) :
    exec .leaveRecall s = .next (s.serve (isOp 30) handleLeaveRecall) := rfl

section
variable {s : State} {p : List Byte} {rest : List (List Byte)}

/-- ENTER_RECALL sets the flag, which forms RECALL. -/
theorem exec_enterRecall_of (h : Commanded s p rest 29 6) {t : State}
    (ht : ({ s with requests := rest, recallFlag := true } : State).formMode = t) :
    exec .enterRecall s = .next { t with
      responses := t.responses ++ [⟨p.getD 0 0, p.getD 1 0, .ok, []⟩] } := by
  subst ht
  exact h.done (exec_enterRecall s) (h.checkCommand _)

theorem exec_leaveRecall_of (h : Commanded s p rest 30 6) {t : State}
    (ht : ({ s with requests := rest, recallFlag := false } : State).formMode = t) :
    exec .leaveRecall s = .next { t with
      responses := t.responses ++ [⟨p.getD 0 0, p.getD 1 0, .ok, []⟩] } := by
  subst ht
  exact h.done (exec_leaveRecall s) (h.checkCommand _)

theorem formMode_of_eq (h : s.formedMode = s.mode) : s.formMode = s := if_pos h

theorem formMode_enters (hf : s.formedMode = .recall) (hm : s.mode = .normal) :
    s.formMode = ({ s with mode := .recall } : State).recallEntry := by
  unfold State.formMode
  rw [hf, hm]
  rfl

theorem formMode_leaves (hf : s.formedMode = .normal) (hm : s.mode = .recall) :
    s.formMode = ({ s with mode := .normal } : State).raise .recallLeft := by
  unfold State.formMode
  rw [hf, hm]
  rfl

/-- With the flag set the mode formed is RECALL. -/
theorem formedMode_of_flag (h : s.recallFlag = true) : s.formedMode = .recall :=
  (formedMode_iff s).2 (.inl h)

/-- A line in force calls for RECALL. -/
def CalledFor (s : State) : Prop := ∃ k ≤ 7, (s.line k).status ≠ .normal ∧
  (s.lineConfig k).mask = false ∧ (s.lineConfig k).action = .recall

/-- With the flag clear the lines alone form the mode. -/
theorem formedMode_of_no_flag (h : s.recallFlag = false) :
    s.formedMode = .recall ↔ CalledFor s := by
  rw [formedMode_iff, h]
  simp [CalledFor]

theorem mode_eq_normal_iff {m : BuildingMode} : m = .normal ↔ m ≠ .recall := by
  cases m <;> simp

theorem counted_of_raised {t : State} {k : EventKind} (h : Raised s t [k]) : Counted s t k := by
  obtain ⟨u, -, ⟨hk, hother, hnotices⟩, hevents, hlast⟩ := h
  exact ⟨(hevents k).trans hk, fun j hj => (hevents j).trans (hother j hj), hlast.trans hnotices⟩

/-- What recall entry makes of the answers: one for each terminal that awaits a trip, and no other. -/
theorem AnswersInOrder.of_reply {trips : List Trip} {answer : Trip → Answer} {more : List Answer}
    (h : AnswersInOrder s trips answer more) : more.Sublist (trips.map answer) ∧
      ∀ b ∈ more, ∃ x ∈ trips, Awaits s x ∧ b = answer x := by
  obtain ⟨horder, -, -⟩ := h
  refine ⟨horder.trans (List.filter_sublist.map answer), fun b hb => ?_⟩
  obtain ⟨x, hx, rfl⟩ := List.mem_map.1 (horder.subset hb)
  obtain ⟨hmem, hawaits⟩ := List.mem_filter.1 hx
  exact ⟨x, hmem, of_decide_eq_true hawaits, rfl⟩

end

/-- Settles O33: recall entry by the rules about `State.recallEntry`, and otherwise what the flag and the lines
form decides whether the mode changes. -/
theorem recallClearsTheWorkInHand : Obligations.RecallClearsTheWorkInHand := by
  intro s p rest a called awaited reply
  refine ⟨fun h hm => ?_, fun h hm hcanonical => ?_, fun h => ⟨fun hstays => ?_, fun hm hnot => ?_⟩⟩
  · exact exec_enterRecall_of h (formMode_of_eq ((formedMode_of_flag rfl).trans hm.symm))
  · obtain ⟨-, hterminals, hgroups, -⟩ := hcanonical
    let start : State := { s with requests := rest, recallFlag := true, mode := .recall }
    have hentry := formMode_enters (s := { s with requests := rest, recallFlag := true })
      (formedMode_of_flag rfl) hm
    obtain ⟨more, hmore, horder⟩ := recallEntry_answers start
    obtain ⟨hsub, hreply⟩ := horder.of_reply
    obtain ⟨-, honce, hall⟩ := horder
    refine ⟨_, exec_enterRecall_of h hentry, ?_, fun g => ?_, fun u => ?_,
      ⟨more, hmore, hsub, hall, honce, hreply⟩, ?_⟩
    · rw [State.recallEntry_frame]
      rfl
    · exact recallEntry_group (s := start) hgroups g
    · exact recallEntry_terminal (s := start) hterminals u
    · have hraised := (raised_recallEntry start).of_start (u := s) (fun _ => rfl) rfl rfl
      exact counted_of_raised (hraised.of_end rfl rfl)
  · let cleared : State := { s with requests := rest, recallFlag := false }
    have hcalled : cleared.formedMode = .recall ↔ called := formedMode_of_no_flag rfl
    refine exec_leaveRecall_of h (formMode_of_eq ?_)
    rcases hstays with ⟨hm, hnot⟩ | ⟨hm, hyes⟩
    · exact (mode_eq_normal_iff.2 (mt hcalled.1 hnot)).trans hm.symm
    · exact (hcalled.2 hyes).trans hm.symm
  · let cleared : State := { s with requests := rest, recallFlag := false }
    have hcalled : cleared.formedMode = .recall ↔ called := formedMode_of_no_flag rfl
    have hleft := formMode_leaves (mode_eq_normal_iff.2 (mt hcalled.1 hnot)) hm
    exact ⟨_, exec_leaveRecall_of h hleft, counted_raise s .recallLeft, rfl⟩

/-! ## The management lock set (R153, R154) -/

theorem exec_lockZones (s : State) :
    exec .lockZones s = .next (s.serve (isOp 25) handleLockZones) := rfl

theorem exec_unlockZones (s : State) :
    exec .unlockZones s = .next (s.serve (isOp 26) handleUnlockZones) := rfl

/-- Taking the members of a set away. -/
theorem memSet_and_not {w : Nat} (a b : BitVec w) (z : Nat) :
    memSet (a &&& ~~~b) z = (memSet a z && !memSet b z) := by
  simp only [memSet, BitVec.getMsbD_and, BitVec.getMsbD_not]
  by_cases hz : z < w
  · simp [hz]
  · simp [BitVec.getMsbD_of_ge a z (Nat.not_lt.1 hz)]

theorem mem_lineNumbers (k : Nat) : k ∈ lineNumbers ↔ k ≤ 7 := by
  simp only [lineNumbers, List.mem_cons, List.not_mem_nil, or_false]
  omega

/-- Settles O35: the zone lock set is a union over the lines (`State.mem_zoneLocks`), and the two commands write
the management lock set alone. -/
theorem zonesAreLockedAndUnlocked : Obligations.ZonesAreLockedAndUnlocked := by
  intro s
  refine ⟨fun z => ?_, fun p rest => ⟨fun h => ?_, fun h => ?_⟩⟩
  · rw [State.mem_zoneLocks]
    simp [mem_lineNumbers, lineInForce, and_assoc]
  · exact ⟨_, h.done (exec_lockZones s) (h.checkCommand _), rfl, fun z => memSet_or _ _ z⟩
  · exact ⟨_, h.done (exec_unlockZones s) (h.checkCommand _), rfl, fun z => memSet_and_not _ _ z⟩

end Sys2Proof.Safety
end

section
/-! SUPPORT. The check register, the receiver's tests and the frames that the part composes, and the proof of O51 (R160, R162 to R164, 12, 12.1). -/

namespace Sys2Proof.Safety

open Sys2Proof.Machine

/-! ## Numbers and sets in bytes (12, 12.1) -/

theorem natOfBytes_append_singleton (bs : List Byte) (b : Byte) :
    natOfBytes (bs ++ [b]) = natOfBytes bs * 256 + b.toNat := by
  simp [natOfBytes]

/-- The first byte of a number is its most significant. -/
theorem natOfBytes_cons (b : Byte) (bs : List Byte) :
    natOfBytes (b :: bs) = b.toNat * 256 ^ bs.length + natOfBytes bs := by
  induction bs using List.reverseRecOn with
  | nil => simp [natOfBytes]
  | append_singleton bs c ih =>
    rw [← List.cons_append, natOfBytes_append_singleton, ih, natOfBytes_append_singleton,
      List.length_append, List.length_singleton, pow_succ]
    ring

theorem numAt_zero (bs : List Byte) (i : Nat) : numAt bs i 0 = 0 := by simp [numAt, natOfBytes]

theorem numAt_succ {bs : List Byte} {i k : Nat} (h : i + k < bs.length) :
    numAt bs i (k + 1) = (bs.getD i 0).toNat * 256 ^ k + numAt bs (i + 1) k := by
  have hi : i < bs.length := by omega
  have hlength : ((bs.drop (i + 1)).take k).length = k := by
    rw [List.length_take, List.length_drop]; omega
  rw [numAt, List.drop_eq_getElem_cons hi, List.take_succ_cons, natOfBytes_cons, hlength,
    List.getD_eq_getElem _ _ hi, numAt]

/-- The bytes after a run are numbered from its length on. -/
theorem numAt_append (before rest : List Byte) (k : Nat) :
    numAt (before ++ rest) before.length k = numAt rest 0 k := by
  rw [numAt, List.drop_left, numAt, List.drop_zero]

@[simp] theorem bytesOfNat_length (k n : Nat) : (bytesOfNat k n).length = k := by
  induction k generalizing n with
  | zero => rfl
  | succ k ih => rw [bytesOfNat, List.length_append, ih]; rfl

theorem natOfBytes_bytesOfNat (k n : Nat) : natOfBytes (bytesOfNat k n) = n % 256 ^ k := by
  induction k generalizing n with
  | zero => simp [bytesOfNat, natOfBytes, Nat.mod_one]
  | succ k ih =>
    rw [bytesOfNat, natOfBytes_append_singleton, ih, BitVec.toNat_ofNat, pow_succ' 256 k,
      Nat.mod_mul]
    omega

theorem numAt_bytesOfNat (k n : Nat) : numAt (bytesOfNat k n) 0 k = n % 256 ^ k := by
  rw [numAt, List.drop_zero, List.take_of_length_le (bytesOfNat_length k n).le, natOfBytes_bytesOfNat]

/-- A set's member is the bit of its place from the most significant (12.1). -/
theorem memSet_eq_testBit {w : Nat} (members : BitVec w) {i : Nat} (h : i < w) :
    memSet members i = members.toNat.testBit (w - 1 - i) := by
  rw [memSet, BitVec.getMsbD_eq_getLsbD, decide_eq_true h, Bool.true_and]
  rfl

/-! ## The check (R163) -/

/-- One bit into the register is the step of R163 on its number. -/
theorem checkBit_toNat (r : BitVec 16) (b : Bool) :
    (checkBit r b).toNat = checkStep r.toNat b := by
  have htop : r.getMsbD 0 = decide (32768 ≤ r.toNat) := by
    rw [← BitVec.msb_eq_getMsbD_zero, BitVec.msb_eq_decide]
  have hshift : (r <<< 1).toNat = 2 * r.toNat % 65536 := by
    rw [BitVec.toNat_shiftLeft, Nat.shiftLeft_eq, Nat.mul_comm]
  simp only [checkBit, checkStep, htop, ← hshift]
  by_cases h : decide (32768 ≤ r.toNat) = b
  · simp [h]
  · simp [h]

theorem checkByte_toNat (r : BitVec 16) (b : Byte) :
    (checkByte r b).toNat = (bitsOf [b]).foldl checkStep r.toNat := by
  have hbits : bitsOf [b] = (List.range 8).map b.getMsbD := by
    change (List.range 8).map (fun i => b.toNat.testBit (7 - i)) ++ [] = _
    rw [List.append_nil]
    exact List.map_congr_left fun i hi => (memSet_eq_testBit b (List.mem_range.1 hi)).symm
  rw [hbits, List.foldl_map]
  exact (List.foldl_hom BitVec.toNat (g₁ := fun r i => checkBit r (b.getMsbD i))
    fun r i => (checkBit_toNat r _).symm).symm

theorem checkOf_toNat (bs : List Byte) : (checkOf bs).toNat = checkOfBytes bs := by
  have hbyte : ∀ (r : BitVec 16) (b : Byte), (bitsOf [b]).foldl checkStep r.toNat =
      (checkByte r b).toNat := fun r b => (checkByte_toNat r b).symm
  simp only [bitsOf, List.flatMap_singleton] at hbyte
  rw [checkOfBytes, bitsOf, List.foldl_flatMap]
  exact (List.foldl_hom BitVec.toNat hbyte).symm

/-! ## The receiver's tests (R162) -/

/-- The frame that a reception's bytes spell: header and payload (R160, 12.1). -/
def spelled (r : Reception) : Frame :=
  ⟨numAt r.bytes 0 1, numAt r.bytes 1 1, numAt r.bytes 2 1,
    (r.bytes.drop 4).take (numAt r.bytes 3 1)⟩

theorem judge_eq_none_iff (r : Reception) : judge r = none ↔ FailsATest r := by
  simp only [judge, FailsATest, ← checkOf_toNat, ite_eq_left_iff, or_iff_not_imp_left, reduceCtorEq,
    imp_false, not_not]

theorem judge_of_passes {r : Reception} (h : ¬ FailsATest r) : judge r = some (spelled r) := by
  simp only [FailsATest, ← checkOf_toNat, not_or] at h
  obtain ⟨hstop, hshort, hlong, hlength, hcheck⟩ := h
  simp only [judge, if_neg hstop, if_neg hshort, if_neg hlong, if_neg hlength, if_neg hcheck]
  rfl

/-- A good frame stands in its bytes: its payload is what lies between the header and the check. -/
theorem payload_of_judge {r : Reception} {f : Frame} (h : judge r = some f) :
    f = ⟨numAt r.bytes 0 1, numAt r.bytes 1 1, numAt r.bytes 2 1,
      (r.bytes.drop 4).dropLast.dropLast⟩ ∧ f.payload.length = numAt r.bytes 3 1 := by
  have hpass : ¬ FailsATest r := fun hf => nomatch h.symm.trans ((judge_eq_none_iff r).2 hf)
  obtain rfl : spelled r = f := Option.some.inj ((judge_of_passes hpass).symm.trans h)
  have hlength : r.bytes.length = numAt r.bytes 3 1 + 6 := by
    by_contra hne
    exact hpass (.inr (.inr (.inr (.inl hne))))
  have hpayload : (r.bytes.drop 4).take (numAt r.bytes 3 1) =
      (r.bytes.drop 4).dropLast.dropLast := by
    rw [List.dropLast_eq_take, List.dropLast_eq_take, List.take_take, List.length_take,
      List.length_drop]
    congr 1
    omega
  refine ⟨by rw [spelled, hpayload], ?_⟩
  rw [spelled, List.length_take, List.length_drop]
  omega

/-! ## Composed frames (R164) -/

/-- The bytes of a frame that the check covers: header and payload (R163). -/
def covered (destination source kind : Nat) (payload : List Byte) : List Byte :=
  [byteOf destination, byteOf source, byteOf kind, byteOf payload.length] ++ payload

section
variable {destination source kind : Nat} {payload : List Byte}

theorem composeFrame_eq : composeFrame destination source kind payload =
    covered destination source kind payload ++
      bytesOfNat 2 (checkOfBytes (covered destination source kind payload)) := by
  rw [← checkOf_toNat]
  rfl

theorem covered_length : (covered destination source kind payload).length = payload.length + 4 := by
  rw [covered, List.length_append, Nat.add_comm]
  rfl

/-- A header field of one byte is read back from its place. -/
theorem numAt_byteOf {n : Nat} (h : n ≤ 255) (before rest : List Byte) :
    numAt (before ++ byteOf n :: rest) before.length 1 = n := by
  rw [numAt_append, numAt_succ (Nat.zero_lt_succ _), numAt_zero, pow_zero, Nat.mul_one, Nat.add_zero]
  exact Nat.mod_eq_of_lt (Nat.lt_succ_of_le h)

theorem composeFrame_lengthField (hlength : payload.length ≤ 56) :
    numAt (composeFrame destination source kind payload) 3 1 = payload.length :=
  numAt_byteOf (by omega) [byteOf destination, byteOf source, byteOf kind] _

theorem composeFrame_passes (hlength : payload.length ≤ 56) :
    ¬ FailsATest ⟨composeFrame destination source kind payload, true⟩ := by
  have htotal : (composeFrame destination source kind payload).length = payload.length + 6 := by
    rw [composeFrame_eq, List.length_append, covered_length, bytesOfNat_length]
  have hcheck : checkOfBytes ((composeFrame destination source kind payload).take
      (payload.length + 4)) =
      numAt (composeFrame destination source kind payload) (payload.length + 4) 2 := by
    rw [composeFrame_eq, ← covered_length (destination := destination) (source := source)
      (kind := kind), List.take_left, numAt_append, numAt_bytesOfNat, ← checkOf_toNat]
    exact (Nat.mod_eq_of_lt (BitVec.isLt _)).symm
  simp only [FailsATest, composeFrame_lengthField hlength, htotal, hcheck]
  simpa using hlength

/-- The bytes of a composed frame spell the fields it was composed of. -/
theorem spelled_composeFrame (hd : destination ≤ 255) (hs : source ≤ 255) (hk : kind ≤ 255)
    (hlength : payload.length ≤ 56) :
    spelled ⟨composeFrame destination source kind payload, true⟩ =
      ⟨destination, source, kind, payload⟩ := by
  rw [spelled, composeFrame_lengthField hlength]
  congr 1
  · exact numAt_byteOf hd [] _
  · exact numAt_byteOf hs [byteOf destination] _
  · exact numAt_byteOf hk [byteOf destination, byteOf source] _
  · exact List.take_left

end

/-- Settles O51: the check register is R163's (`checkOf_toNat`), so the tests are R162's
(`judge_eq_none_iff`), and a composed frame passes them. -/
theorem composedFramesAreGood : Obligations.ComposedFramesAreGood := by
  refine ⟨judge_eq_none_iff, fun r f => payload_of_judge, checkOf_toNat,
    fun destination source kind payload hd hs hk hp => ⟨composeFrame_eq, ?_⟩,
    fun bs i k h => ⟨numAt_zero bs i, numAt_succ h⟩,
    fun k n => ⟨bytesOfNat_length k n, numAt_bytesOfNat k n⟩,
    fun w members i => memSet_eq_testBit members⟩
  rw [judge_of_passes (composeFrame_passes hp), spelled_composeFrame hd hs hk hp]

end Sys2Proof.Safety
end

section
/-! SUPPORT. What a good frame is to the G-port, the FIFOs that it joins, and the proof of O24 (R165, R166, R168). -/

namespace Sys2Proof.Safety

open Sys2Proof.Machine

section
variable {s : State} {r : Reception} {f : Frame}

/-! ## The classification (R165, R166) -/

theorem groupOfStation_eq_none_iff (s : State) (station : Nat) : s.groupOfStation station = none ↔
    ∀ g, 1 ≤ g → g ≤ 6 → (s.groupConfig g).station ≠ some station := by
  simp [State.groupOfStation, mem_groupNumbers]

theorem arrival_eq_some {a : Arrival} (hw : Working s) (hreceiving : s.gReceiver = .receiving)
    (hjudge : judge r = some f) (hclass : s.classify f = a) : s.arrival r a = some f := by
  simp [State.arrival, hw.operating, hreceiving, hjudge, Option.filter, hclass]

/-- A frame for the part is classified by its kind, and an MREQ by its source. -/
theorem classify_own (hown : f.destination = s.tables.settings.ownStation) : s.classify f =
    if f.kind = 32 then if f.source = s.tables.settings.headEnd then .mreq else .discarded
    else if f.kind = 17 then .assign else if f.kind = 18 then .decline else .discarded :=
  if_pos hown

/-- A frame for the part of a kind that it does not take, or an MREQ not from the head-end. -/
theorem classify_discarded (hown : f.destination = s.tables.settings.ownStation)
    (hassign : f.kind ≠ 17) (hdecline : f.kind ≠ 18)
    (hmreq : f.kind = 32 → f.source ≠ s.tables.settings.headEnd) : s.classify f = .discarded := by
  rw [classify_own hown, if_neg hassign, if_neg hdecline]
  split_ifs with hkind hhead
  · exact absurd hhead (hmreq hkind)
  · rfl
  · rfl

/-- The stations that the part serves beside its own (R165). -/
theorem not_notAddressed_iff (hown : f.destination ≠ s.tables.settings.ownStation) :
    ¬ NotAddressed s f ↔ 1 ≤ f.destination ∧ f.destination ≤ 64 ∧
      (∀ g, 1 ≤ g → g ≤ 6 → (s.groupConfig g).station ≠ some f.destination) ∧
      f.destination ≠ s.tables.settings.headEnd ∧ f.destination ≠ f.source := by
  simp only [NotAddressed, ne_eq, hown, not_false_eq_true, true_and, not_or, not_exists, not_and,
    Nat.one_le_iff_ne_zero, Nat.not_lt]
  tauto

/-- A frame for another station is a candidate for relay when the part serves the station. -/
theorem classify_other (hown : f.destination ≠ s.tables.settings.ownStation) :
    s.classify f = .relay ∧ ¬ NotAddressed s f ∨ s.classify f = .ignored ∧ NotAddressed s f := by
  have hserved := not_notAddressed_iff hown
  rw [← groupOfStation_eq_none_iff] at hserved
  rw [show s.classify f = _ from if_neg hown]
  simp only [Bool.and_eq_true, decide_eq_true_eq, Option.isNone_iff_eq_none, and_assoc]
  by_cases h : NotAddressed s f
  · exact .inr ⟨if_neg fun hcond => hserved.2 hcond h, h⟩
  · exact .inl ⟨if_pos (hserved.1 h), h⟩

theorem classify_relay (hown : f.destination ≠ s.tables.settings.ownStation)
    (h : ¬ NotAddressed s f) : s.classify f = .relay :=
  ((classify_other hown).resolve_right fun hi => h hi.2).1

theorem classify_ignored (h : NotAddressed s f) : s.classify f = .ignored :=
  ((classify_other h.1).resolve_left fun hr => hr.2 h).1

/-! ## The FIFOs (R166, R168) -/

@[simp] theorem handOn_requests (s : State) (f : Frame) : (s.handOn f).requests = s.requests := by
  rw [handOn_frame]

@[simp] theorem handOn_toTerminals (s : State) (f : Frame) :
    (s.handOn f).toTerminals = s.toTerminals := by
  rw [handOn_frame]

theorem exec_receiveMreq (h : s.arrival r .mreq = some f) : exec (.receiveMreq r) s = .next
    (if s.requests.length < 8 then { s.handOn f with requests := s.requests ++ [f.payload] }
      else (s.handOn f).raise .portOverrun) := by
  change execReceiveMreq r s = _
  simp only [execReceiveMreq, h, handOn_requests]
  rfl

theorem exec_receiveGToTRelay (h : s.arrival r .relay = some f) :
    exec (.receiveGToTRelay r) s = .next
      (if byteOf f.kind ∈ s.tables.settings.gToT ∧
          (s.terminalConfig f.destination).configured = true then
        if s.toTerminals.length < 16 then
          { s.handOn f with toTerminals := s.toTerminals ++ [r.bytes] }
        else (s.handOn f).raise .relayLost
      else s.handOn f) := by
  change execReceiveGToTRelay r s = _
  simp only [execReceiveGToTRelay, h, handOn_toTerminals, State.settings, State.terminalConfig,
    handOn_tables]
  rfl

end

/-- Settles O24: the two commands take the frames of their class (`classify_own`, `classify_relay`), and each
FIFO drops at its capacity. -/
theorem gPortFillsItsFifos : Obligations.GPortFillsItsFifos := by
  intro s r f hw hreceiving hjudge u
  refine ⟨fun hown hkind hhead => ?_, ?_⟩
  · have hclass : s.classify f = .mreq := by rw [classify_own hown, if_pos hkind, if_pos hhead]
    have hexec := exec_receiveMreq (arrival_eq_some hw hreceiving hjudge hclass)
    refine ⟨fun hroom => by rw [hexec, if_pos hroom], fun hfull => ?_⟩
    rw [if_neg (Nat.not_lt.2 hfull)] at hexec
    exact ⟨_, hexec, counted_raise u .portOverrun, rfl⟩
  · intro h1 h64 hown hhead hgroup hsource wanted
    have hserved := (not_notAddressed_iff hown).2 ⟨h1, h64, hgroup, hhead, hsource⟩
    have hexec := exec_receiveGToTRelay
      (arrival_eq_some hw hreceiving hjudge (classify_relay hown hserved))
    refine ⟨fun hwanted hroom => by rw [hexec, if_pos hwanted, if_pos hroom],
      fun hwanted hfull => ?_, fun hnot => by rw [hexec, if_neg hnot]⟩
    rw [if_pos hwanted, if_neg (Nat.not_lt.2 hfull)] at hexec
    exact ⟨_, hexec, counted_raise u .relayLost, rfl⟩

end Sys2Proof.Safety
end

section
/-! SUPPORT. The receivers and the receptions that no other command takes, and the proof of O11 (R63 to R65, R138, R161, R162, R165, R166). -/

namespace Sys2Proof.Safety

open Sys2Proof.Machine

/-! ## A miss (R64, R65) -/

section
variable {s : State} {x : Exchange}

/-- A miss counts up to 3, where the terminal is ABSENT (R64). -/
theorem miss_terminal (h : x.stale = false) (u : Nat) : (s.miss x).terminal u =
    if u ≠ x.station then s.terminal u
    else if (s.terminal x.station).absent = true then { s.terminal x.station with misses := 3 }
    else if 2 ≤ (s.terminal x.station).misses then
      { s.terminal x.station with misses := 3, absent := true }
    else { s.terminal x.station with misses := (s.terminal x.station).misses + 1 } := by
  rw [ite_not]
  cases ha : (s.terminal x.station).absent with
  | true => rw [miss_absent h ha, setTerminal_terminal, if_pos rfl]
  | false =>
    rw [if_neg Bool.false_ne_true]
    by_cases h2 : 2 ≤ (s.terminal x.station).misses
    · rw [miss_third h ha h2, State.raise_terminal, setTerminal_terminal, if_pos h2]
    · rw [miss_early h ha (Nat.not_le.1 h2), setTerminal_terminal, if_neg h2]

/-- TERMINAL_ABSENT alone can come of a miss, and comes of a PRESENT terminal's third (R64). -/
theorem raised_miss (s : State) (x : Exchange) : Raised s (s.miss x)
    (onlyIf (x.stale = false ∧ (s.terminal x.station).absent = false ∧
      2 ≤ (s.terminal x.station).misses) .terminalAbsent) := by
  cases h : x.stale with
  | true => rw [miss_stale h, onlyIf_false (by simp)]; exact Raised.refl s
  | false =>
    cases ha : (s.terminal x.station).absent with
    | true => rw [miss_absent h ha, onlyIf_false (by simp)]; exact ⟨fun _ => rfl, rfl⟩
    | false =>
      by_cases h2 : 2 ≤ (s.terminal x.station).misses
      · rw [miss_third h ha h2, onlyIf_true ⟨rfl, rfl, h2⟩]
        exact ((Raised.refl _).raise (k := .terminalAbsent)).of_start (fun _ => rfl) rfl rfl
      · rw [miss_early h ha (Nat.not_le.1 h2), onlyIf_false (by simp [h2])]
        exact ⟨fun _ => rfl, rfl⟩

end

section
variable {s : State} {r : Reception} (hw : Working s)
include hw

/-! ## The receivers (R161) -/

theorem exec_receiverIdle_terminal (h : s.tReceiver = .sync) :
    exec (.receiverIdle .terminal) s = .next { s with tReceiver := .idle } := by
  change execReceiverIdle .terminal s = _
  simp [execReceiverIdle, hw.operating, h]

theorem exec_receiverIdle_group (h : s.gReceiver = .sync) :
    exec (.receiverIdle .group) s = .next { s with gReceiver := .idle } := by
  change execReceiverIdle .group s = _
  simp [execReceiverIdle, hw.operating, h]

theorem exec_receptionStart_terminal (h : s.tReceiver = .idle) :
    exec (.receptionStart .terminal) s = .next { s with
      tReceiver := .receiving
      exchange := s.exchange.map (fun x => { x with begun := true }) } := by
  change execReceptionStart .terminal s = _
  simp [execReceptionStart, hw.operating, h]

theorem exec_receptionStart_group (h : s.gReceiver = .idle) :
    exec (.receptionStart .group) s = .next { s with gReceiver := .receiving } := by
  change execReceptionStart .group s = _
  simp [execReceptionStart, hw.operating, h]

/-! ## The end of a reception (R162, R165, R166) -/

theorem exec_receptionEnd_terminal (h : s.tReceiver = .receiving) :
    exec (.receptionEnd .terminal r) s = .next (s.endOnT r) := by
  change execReceptionEnd .terminal r s = _
  simp [execReceptionEnd, hw.operating, h]

theorem exec_receptionEnd_group (h : s.gReceiver = .receiving) :
    exec (.receptionEnd .group r) s = .next (s.endOnG r) := by
  change execReceptionEnd .group r s = _
  simp [execReceptionEnd, hw.operating, h]

end

section
variable {s : State} {r : Reception} {f : Frame} {x : Exchange}

theorem endOnG_failed (h : judge r = none) :
    s.endOnG r = ({ s with gReceiver := .idle } : State).raise .linkErrors := by
  rw [State.endOnG, h]

theorem endOnG_ignored (h : judge r = some f) (hclass : s.classify f = .ignored) :
    s.endOnG r = { s with gReceiver := .idle } := by
  rw [State.endOnG, h]
  dsimp only
  rw [hclass]

theorem endOnG_discarded (h : judge r = some f) (hclass : s.classify f = .discarded) :
    s.endOnG r = s.handOn f := by
  rw [State.endOnG, h]
  dsimp only
  rw [hclass]

/-- Outside a reply time a reception is judged alone (R162). -/
theorem endOnT_outside (h : ∀ x, s.exchange = some x → x.begun = false) : s.endOnT r =
    if judge r = none then ({ s with tReceiver := .idle } : State).raise .linkErrors
    else { s with tReceiver := .idle } := by
  rw [State.endOnT]
  cases hx : s.exchange with
  | none => simp
  | some x => simp [h x hx]

/-- A frame that is not from the polled station to station 0 is no reply (R63). -/
theorem replyFrame_eq_none (hx : s.exchange = some x)
    (h : ∀ f, judge r = some f → f.source ≠ x.station ∨ f.destination ≠ 0) :
    s.replyFrame r = none := by
  unfold State.replyFrame
  rw [hx]
  cases hjudge : judge r with
  | none => simp
  | some f => rcases h f hjudge with h | h <;> simp [h, Config.tStation]

/-- A begun reply that fails raises LINK_ERRORS and is a miss (R63, R162). -/
theorem endOnT_failed (hx : s.exchange = some x) (hbegun : x.begun = true)
    (h : ∀ f, judge r = some f → f.source ≠ x.station ∨ f.destination ≠ 0) :
    s.endOnT r = (s.endExchange.raise .linkErrors).miss x := by
  rw [State.endOnT]
  simp [hx, hbegun, replyFrame_eq_none hx h]

end

/-- Settles O11: each port's ends are taken case by case (`endOnG_failed`, `endOnT_outside` and their
neighbours), and a failed reply's LINK_ERRORS comes before the miss (`raised_miss`). -/
theorem receptionsBeginAndEnd : Obligations.ReceptionsBeginAndEnd := by
  intro s hw
  refine ⟨exec_receiverIdle_terminal hw, exec_receiverIdle_group hw, exec_receptionStart_terminal hw,
    exec_receptionStart_group hw, fun r hreceiving hjudge => ?_,
    fun r f hreceiving hjudge hnot => ?_, fun r f h hassign hdecline hmreq => ?_,
    fun r hreceiving hidle => ?_, ?_⟩
  · rw [exec_receptionEnd_group hw hreceiving, endOnG_failed hjudge]
    exact ⟨_, rfl, counted_raise { s with gReceiver := .idle } .linkErrors, rfl⟩
  · rw [exec_receptionEnd_group hw hreceiving, endOnG_ignored hjudge (classify_ignored hnot)]
  · obtain ⟨-, hreceiving, hjudge, hown⟩ := h
    rw [exec_receptionEnd_group hw hreceiving,
      endOnG_discarded hjudge (classify_discarded hown hassign hdecline hmreq)]
  · rw [exec_receptionEnd_terminal hw hreceiving, endOnT_outside hidle]
    refine ⟨fun hjudge => ?_, fun hjudge => by rw [if_neg hjudge]⟩
    rw [if_pos hjudge]
    exact ⟨_, rfl, counted_raise { s with tReceiver := .idle } .linkErrors, rfl⟩
  · intro r x hreceiving hx hbegun hfails v
    let failed : State := s.endExchange.raise .linkErrors
    rw [exec_receptionEnd_terminal hw hreceiving, endOnT_failed hx hbegun hfails]
    refine ⟨failed.miss x, rfl, failed.miss_frame x, ?_, fun hstale => ?_, fun hstale u => ?_⟩
    · have hraised : Raised s failed [.linkErrors] :=
        ((Raised.refl _).raise (k := .linkErrors)).of_start (fun _ => rfl) rfl rfl
      exact hraised.append rfl (raised_miss failed x)
    · rw [miss_stale hstale]
      rfl
    · exact miss_terminal (s := failed) hstale u

end Sys2Proof.Safety
end

section
/-! SUPPORT. Which source the G-port arbiter takes, and the proofs of O30 and O31 (R84, R110, R129, R131, R140, R164, R169 to R174, R182, R185). -/

namespace Sys2Proof.Safety

open Sys2Proof.Machine

section
variable {s : State}

/-! ## The sources in their order (R129, R170, R171) -/

theorem sendable_iff (g : Nat) : s.sendable g = true ↔ SendableCall s g := by
  simp [State.sendable, SendableCall, and_assoc]

/-- The rotation examines the groups 1 to 6 alone (R171). -/
theorem mem_rotation {g : Nat} (h : g ∈ s.rotation) : 1 ≤ g ∧ g ≤ 6 := by
  obtain ⟨i, -, rfl⟩ := List.mem_map.1 h
  omega

theorem rotation_none (h : NoSendableCall s) : s.rotation.find? s.sendable = none :=
  List.find?_eq_none.2 fun g hg hsend =>
    let ⟨h1, h6⟩ := mem_rotation hg
    h g h1 h6 ((sendable_iff g).1 hsend)

/-- The rotation finds the first group after the last-served one that has a sendable CALL (R171). -/
theorem rotation_first {i : Nat} (hi : i < 6) (h : SendableCall s ((s.lastServed + i) % 6 + 1))
    (hfirst : ∀ j < i, ¬ SendableCall s ((s.lastServed + j) % 6 + 1)) :
    s.rotation.find? s.sendable = some ((s.lastServed + i) % 6 + 1) := by
  have hindex : (List.range 6).find? (fun i => s.sendable ((s.lastServed + i) % 6 + 1)) = some i :=
    List.find?_range_eq_some.2 ⟨(sendable_iff _).2 h, List.mem_range.2 hi, fun j hj =>
      by simpa [← sendable_iff] using hfirst j hj⟩
  rw [State.rotation, List.find?_map]
  exact congrArg (Option.map _) hindex

section
variable (h : TransmitterFree s)
include h

theorem arbiter_cancel {c : Cancel} {rest : List Cancel} (hcancels : s.cancels = c :: rest) :
    s.arbiter = some .cancel := by
  obtain ⟨hw, hrestart⟩ := h
  simp [State.arbiter, hw.operating, hrestart, hcancels]

theorem arbiter_rotation (hcancels : s.cancels = []) {g : Nat}
    (hg : s.rotation.find? s.sendable = some g) : s.arbiter = some (.call g) := by
  obtain ⟨hw, hrestart⟩ := h
  simp [State.arbiter, hw.operating, hrestart, hcancels, hg]

/-- Without a CANCEL and a sendable CALL the first FIFO that is not empty is taken (R170). -/
theorem arbiter_fifos (hcancels : s.cancels = []) (hcalls : NoSendableCall s) : s.arbiter =
    if s.responses ≠ [] then some .response
    else if s.notices ≠ [] then some .notice
    else if s.toNetwork ≠ [] then some .relay
    else if s.reports ≠ [] then some .report
    else none := by
  obtain ⟨hw, hrestart⟩ := h
  simp [State.arbiter, hw.operating, hrestart, hcancels, rotation_none hcalls]

end

/-! ## The frames (R140, R164, R169, R174, R182, R185) -/

theorem exec_sendCancel {c : Cancel} {rest : List Cancel} (h : s.arbiter = some .cancel)
    (hcancels : s.cancels = c :: rest) : exec .sendCancel s = .next { s with
      cancels := rest
      gLine := match (s.groupConfig c.group).station with
        | some st => some (composeFrame st s.tables.settings.ownStation 19 (bytesOfNat 2 c.tag))
        | none => s.gLine } := by
  change execSendCancel s = _
  simp only [execSendCancel, h, hcancels]
  cases (s.groupConfig c.group).station <;> rfl

theorem exec_sendMrsp {a : Response} {rest : List Response} (h : s.arbiter = some .response)
    (hresponses : s.responses = a :: rest) : exec .sendMrsp s = .next { s with
      responses := rest
      restart := if s.restart = .answered ∧ a.operation = 19#8 ∧ a.code = .ok then .transmitted
        else s.restart
      gLine := some (composeFrame s.tables.settings.headEnd s.tables.settings.ownStation 33
        ([a.number, a.operation, byteOf (responseCodes.idxOf a.code)] ++ a.data)) } := by
  have hrestart : (decide (s.restart = RestartPhase.answered) && a.restarts) = true ↔
      s.restart = .answered ∧ a.operation = 19#8 ∧ a.code = .ok := by
    simp only [Response.restarts, Bool.and_eq_true, decide_eq_true_eq]
    rfl
  change execSendMrsp s = _
  simp only [execSendMrsp, h, hresponses, hrestart, responseCodes_idxOf]
  rfl

theorem exec_sendNotice {n : Notice} {rest : List Notice} (h : s.arbiter = some .notice)
    (hnotices : s.notices = n :: rest) : exec .sendNotice s = .next { s with
      notices := rest
      gLine := some (composeFrame s.tables.settings.headEnd s.tables.settings.ownStation 34
        [byteOf (eventKinds.idxOf n.kind), byteOf n.count]) } := by
  change execSendNotice s = _
  simp only [execSendNotice, h, hnotices, eventKinds_idxOf]
  rfl

theorem exec_sendTToGRelay {frame : List Byte} {rest : List (List Byte)}
    (h : s.arbiter = some .relay) (hframes : s.toNetwork = frame :: rest) :
    exec .sendTToGRelay s = .next { s with toNetwork := rest, gLine := some frame } := by
  change execSendTToGRelay s = _
  simp only [execSendTToGRelay, h, hframes]
  rfl

theorem exec_sendReport {a : Report} {rest : List Report} (h : s.arbiter = some .report)
    (hreports : s.reports = a :: rest) : exec .sendReport s = .next { s with
      reports := rest
      gLine := some (composeFrame s.tables.settings.headEnd s.tables.settings.ownStation 35
        (reportBytes a)) } := by
  change execSendReport s = _
  simp only [execSendReport, h, hreports, ← reportPayload_eq]
  rfl

end

/-- Settles O30: with every source before it empty a source's head is what the arbiter takes
(`arbiter_cancel`, `arbiter_fifos`). -/
theorem transmitterTakesTheHead : Obligations.TransmitterTakesTheHead := by
  intro s h own head
  refine ⟨fun c rest hc => exec_sendCancel (arbiter_cancel h hc) hc, fun hcancels hcalls => ?_⟩
  have harbiter := arbiter_fifos h hcancels hcalls
  refine ⟨fun a rest ha => exec_sendMrsp ?_ ha, fun hresponses =>
    ⟨fun n rest hn => exec_sendNotice ?_ hn, fun hnotices =>
      ⟨fun frame rest hf => exec_sendTToGRelay ?_ hf, fun hframes a rest ha =>
        exec_sendReport ?_ ha⟩⟩⟩
  · simp [harbiter, ha]
  · simp [harbiter, hresponses, hn]
  · simp [harbiter, hresponses, hnotices, hf]
  · simp [harbiter, hresponses, hnotices, hframes, ha]

/-! ## CALLs (R110, R131, R171) and RECALL (R84, R129) -/

section
variable {s : State}

/-- The layout of a CALL (12.3). -/
theorem callPayload_eq (c : Call) : callPayload c =
    bytesOfNat 2 c.tag ++ [byteOf c.origin, byteOf c.destination, if c.needs then 1 else 0,
      match c.marker with
        | .oneOfOne => 1
        | .oneOfTwo => 2
        | .twoOfTwo => 3] := by
  cases hm : c.marker <;> simp [callPayload, boolByte, hm, LegMarker.code, byteOf]

theorem exec_sendCall {g station : Nat} {c : Call} {rest : List Call} (h : s.arbiter = some (.call g))
    (hqueue : (s.group g).queue = c :: rest) (hstation : (s.groupConfig g).station = some station) :
    exec .sendCall s = .next { s with
      groups := s.groups.set {} g { s.group g with
        queue := rest
        outstanding := (s.group g).outstanding ++
          [⟨c, s.now + (s.groupConfig g).timeout * 250⟩] }
      trips := s.trips.map (fun t => if t.number = c.trip then { t with state := .called } else t)
      lastServed := g
      gLine := some (composeFrame station s.tables.settings.ownStation 16 (callPayload c)) } := by
  change execSendCall s = _
  simp only [execSendCall, h]
  rw [hqueue]
  dsimp only
  rw [hstation]
  rfl

/-- Under RECALL no group has a sendable CALL (R129). -/
theorem arbiter_recall (h : s.mode = .recall) (g : Nat) : s.arbiter ≠ some (.call g) := by
  intro hcall
  obtain ⟨-, -, hnormal⟩ := (sendable_iff g).1 (arbiter_call hcall)
  exact nomatch h.symm.trans hnormal

/-- Under RECALL stage 0 ends the decision (R83, R84). -/
theorem decision_recall (h : s.mode = .recall) (p : Presentation) :
    ∃ why ∈ [Reason.unconfigured, .serviceSuspended, .terminalHeld, .terminalLatched],
      s.decision p = ⟨none, none, .deny why⟩ := by
  by_cases hpart : s.partState = .running
  · exact ⟨.serviceSuspended, by simp, by simp [State.decision, hpart, h]⟩
  · exact ⟨.unconfigured, by simp, if_pos hpart⟩

end

/-- Settles O31: the rotation finds the group (`rotation_first`), and under RECALL the arbiter takes no CALL and
a decision ends in stage 0. -/
theorem sendCallTakesTheNextGroup : Obligations.SendCallTakesTheNextGroup := by
  refine ⟨fun s i c rest station hfree hcancels hi => ?_, fun s hmode => ⟨?_, fun p => ?_⟩⟩
  · intro g hsend hfirst hqueue hstation
    have harbiter := arbiter_rotation hfree hcancels (rotation_first hi hsend hfirst)
    have hexec := exec_sendCall harbiter hqueue hstation
    rw [callPayload_eq] at hexec
    exact hexec
  · change execSendCall s = _
    unfold execSendCall
    split
    · next g hcall => exact absurd hcall (arbiter_recall hmode g)
    · rfl
  · obtain ⟨why, hwhy, hdecision⟩ := decision_recall hmode p
    obtain ⟨t, ht, hframe, -⟩ := admission_of_answer hdecision (applyEnding_turnedAway p.terminal hwhy)
    rw [ht, hframe]
    exact ⟨rfl, rfl⟩

end Sys2Proof.Safety
end

section
/-! SUPPORT. The site code record and the waiting commands: which commands can change the record, that none stops the part or touches the queue, and the proofs of O2 and O54 (R173, R178; assumption log 1). -/

namespace Sys2Proof.Safety

open Sys2Proof.Machine

/-! ## The site code record and the waiting commands -/

/-- The site code record and the commands that wait. -/
def siteParts (s : State) : SiteCode × List Instr := (s.siteCode, s.pending)

/-- Neither is work in hand. -/
theorem siteParts_of_lasting {s t : State} (h : lasting t = lasting s) :
    siteParts t = siteParts s := by
  have hparts := congrArg siteParts h
  exact hparts

section
variable (s : State)

theorem siteParts_setStandby (b : PolicyBank) : siteParts (s.setStandby b) = siteParts s :=
  (congrArg siteParts (setStandby_banks s b)).trans rfl

theorem siteParts_endSave : siteParts s.endSave = siteParts s := by
  unfold State.endSave
  split <;> rfl

theorem siteParts_loadTables : siteParts s.loadTables = siteParts s := by
  unfold State.loadTables
  split <;> rfl

theorem siteParts_configureTerminal (u : Nat) (c : TerminalConfig) :
    siteParts (s.configureTerminal u c) = siteParts s :=
  (congrArg siteParts (configureTerminal_frame s u c)).trans rfl

theorem siteParts_eraseTerminal (u : Nat) : siteParts (s.eraseTerminal u) = siteParts s := by
  unfold State.eraseTerminal
  split_ifs <;> rfl

/-- A line configuration moves its line and then the mode. -/
theorem siteParts_applyLine (k : Nat) (c : LineConfig) :
    siteParts (s.applyLine k c) = siteParts s :=
  (congrArg siteParts (lineStep_configured s k c).moved.formMode_frame).trans rfl

end

/-- A request whose handling changes neither. -/
theorem serve_siteParts {mine : List Byte → Bool} {handle : List Byte → State → Reply}
    (hhandle : ∀ p u, siteParts (handle p u).state = siteParts u) (s : State) :
    Leaves (fun t => siteParts t = siteParts s) (.next (s.serve mine handle)) :=
  leaves_next (serve_preserves siteParts (fun _ _ => rfl) (fun _ _ _ _ => rfl) hhandle s)

/-- Can the command change the site code record (R178)? -/
def movesSiteCode : Instr → Bool
  | .setSiteCode | .fullResetEnd | .restartMade => true
  | _ => false

/-- Every other command leaves the record and the waiting commands as they were. -/
theorem exec_siteParts {c : Instr} (hc : movesSiteCode c = false) (s : State) :
    Leaves (fun t => siteParts t = siteParts s) (exec c s) := by
  cases c with
  | setSiteCode | fullResetEnd | restartMade => exact absurd hc.symm Bool.false_ne_true
  -- the resets, the end of LOADING and the clock
  | fullReset => exact leaves_next (siteParts_endSave s)
  | loadingEnd =>
    refine (execLoadingEnd_lasting s).mono ?_
    rintro t (rfl | h)
    · rfl
    · exact (siteParts_of_lasting h).trans (siteParts_loadTables s)
  | clockAdvance =>
    refine leaves_next ?_
    split <;> rfl
  -- a save
  | saveMarkCleared verified | saveSectorsErased verified | saveTablesProgrammed verified
  | saveMarkWritten verified =>
    refine leaves_next ?_
    split
    · rfl
    · split_ifs <;> rfl
  -- the policy tables and the banks
  | writeProfile | writeTenant | writeLanding =>
    exact serve_siteParts (fun _ _ => checkChange_preserves rfl (checkIndex_preserves
      (checkField_preserves (siteParts_setStandby _ _)))) s
  | writeHoliday | eraseProfile | eraseTenant | eraseHoliday | eraseLanding =>
    exact serve_siteParts (fun _ _ => checkChange_preserves rfl (checkIndex_preserves
      (siteParts_setStandby _ _))) s
  | copyActiveToStandby =>
    exact serve_siteParts (fun _ _ => checkChange_preserves rfl (siteParts_setStandby _ _)) s
  | switchBanks | saveImage => exact serve_siteParts (fun _ _ => checkChange_preserves rfl rfl) s
  -- the other tables
  | writeGroup | writeSkyLobby | writeFormat | writeFacilityRange =>
    exact serve_siteParts (fun _ _ => checkChange_preserves rfl (checkIndex_preserves
      (checkField_preserves rfl))) s
  | eraseSkyLobby | eraseFormat | eraseFacilityRange =>
    exact serve_siteParts (fun _ _ => checkChange_preserves rfl (checkIndex_preserves rfl)) s
  | eraseGroup =>
    exact serve_siteParts (fun _ _ => checkChange_preserves rfl (checkIndex_preserves
      (ite_preserves rfl rfl))) s
  | writeTerminal =>
    exact serve_siteParts (fun _ _ => checkChange_preserves rfl (checkIndex_preserves
      (checkField_preserves (siteParts_configureTerminal _ _ _)))) s
  | eraseTerminal =>
    exact serve_siteParts (fun _ _ => checkChange_preserves rfl (checkIndex_preserves
      (ite_preserves rfl (siteParts_eraseTerminal _ _)))) s
  | writeAlarmLine =>
    exact serve_siteParts (fun _ _ => checkChange_preserves rfl (checkIndex_preserves
      (checkField_preserves (acceptWith_preserves (siteParts_applyLine _ _ _))))) s
  | eraseAlarmLine =>
    exact serve_siteParts (fun _ _ => checkChange_preserves rfl (checkIndex_preserves
      (accept_preserves (siteParts_applyLine _ _ _)))) s
  | writeSettings =>
    refine serve_siteParts (fun _ _ => checkChange_preserves rfl (checkIndex_preserves ?_)) s
    split <;> rfl
  -- the other commands of the head-end
  | setTime =>
    exact serve_siteParts (fun _ _ => checkCommand_preserves rfl (checkField_preserves rfl)) s
  | startService =>
    exact serve_siteParts (fun _ _ => checkCommand_preserves rfl (ite_preserves rfl rfl)) s
  | lockZones | unlockZones => exact serve_siteParts (fun _ _ => checkCommand_preserves rfl rfl) s
  | enterRecall | leaveRecall =>
    exact serve_siteParts (fun _ _ => checkCommand_preserves rfl
      ((siteParts_of_lasting (lasting_formMode _)).trans rfl)) s
  | _ => exact (exec_lasting rfl s).mono fun _ => siteParts_of_lasting

/-! ## The commands that change the record (R178) -/

theorem resetValues_pending (s : State) : s.resetValues.pending = s.pending :=
  congrArg Prod.snd (siteParts_endSave s)

/-- What may become of a site code record: a LOCKED one stays, and none goes back to BLANK. -/
def SiteCodeHolds (c d : SiteCode) : Prop :=
  (c.state = .locked → d = c) ∧ (c.state ≠ .blank → d.state ≠ .blank)

theorem SiteCodeHolds.refl (c : SiteCode) : SiteCodeHolds c c := ⟨fun _ => rfl, id⟩

/-- A reset makes a SET record LOCKED and leaves any other. -/
theorem siteCodeHolds_atReset (c : SiteCode) : SiteCodeHolds c c.atReset := by
  unfold SiteCode.atReset
  split
  · next hset =>
    exact ⟨fun hlocked => absurd (hset.symm.trans hlocked) (by decide),
      fun _ => SiteState.noConfusion⟩
  all_goals exact .refl c

/-- SET_SITE_CODE refuses a LOCKED record and makes any other SET. -/
theorem siteCodeHolds_handleSetSiteCode (c : SiteCode) (p : List Byte) (u : State)
    (h : SiteCodeHolds c u.siteCode) : SiteCodeHolds c (handleSetSiteCode p u).state.siteCode := by
  refine checkCommand_keeps (inv := fun t => SiteCodeHolds c t.siteCode) h h ?_
  split
  · exact h
  · next hfree =>
    exact ⟨fun hlocked => absurd ((congrArg SiteCode.state (h.1 hlocked)).trans hlocked) hfree,
      fun _ => SiteState.noConfusion⟩

/-- What every command makes of the site code record. -/
theorem exec_siteCodeHolds (c : Instr) (s : State) :
    Leaves (fun t => SiteCodeHolds s.siteCode t.siteCode) (exec c s) := by
  cases c with
  | setSiteCode =>
    exact leaves_next (serve_keeps (inv := fun t => SiteCodeHolds s.siteCode t.siteCode)
      (fun _ _ h => h) (fun _ _ _ _ h => h) (siteCodeHolds_handleSetSiteCode _) (.refl _))
  | fullResetEnd | restartMade =>
    refine leaves_next ?_
    split
    · exact siteCodeHolds_atReset _
    · exact .refl _
  | _ =>
    refine (exec_siteParts rfl s).mono fun t h => ?_
    rw [show t.siteCode = s.siteCode from congrArg Prod.fst h]
    exact .refl _

/-- Settles O54: resets lock a SET record, SET_SITE_CODE refuses a LOCKED one, and no other command touches the
record (`exec_siteParts`). -/
theorem lockedSiteCodeStays : Obligations.LockedSiteCodeStays := by
  intro s t hstep
  have hkept : SiteCodeHolds s.siteCode t.siteCode := by
    unfold step at hstep
    split at hstep
    · obtain rfl := Host.Outcome.next.inj hstep
      have hidle : s.idle.siteCode = s.siteCode := by
        unfold State.idle
        split <;> rfl
      exact hidle ▸ .refl _
    · next c waiting _ => exact exec_siteCodeHolds c { s with pending := waiting } t hstep
  exact hkept

/-! ## The waiting commands (assumption log 1) -/

/-- Every command has a next state. -/
theorem exec_next (c : Instr) (s : State) : ∃ t, exec c s = .next t := by
  cases c <;> exact ⟨_, rfl⟩

/-- No command touches the waiting commands. -/
theorem exec_pending (c : Instr) (s : State) :
    Leaves (fun t => t.pending = s.pending) (exec c s) := by
  cases c with
  | setSiteCode =>
    exact leaves_next (serve_preserves State.pending (fun _ _ => rfl) (fun _ _ _ _ => rfl)
      (fun _ _ => checkCommand_preserves rfl (ite_preserves rfl rfl)) s)
  | fullResetEnd | restartMade =>
    refine leaves_next ?_
    split
    · exact resetValues_pending s
    · rfl
  | _ => exact (exec_siteParts rfl s).mono fun _ => congrArg Prod.snd

/-- Settles O2: by `exec_next` and `exec_pending`; the step with no command waiting is the model's idling. -/
theorem noCommandStopsThePart : Obligations.NoCommandStopsThePart := by
  refine ⟨fun c s => ?_, fun s hnone => ?_⟩
  · obtain ⟨t, ht⟩ := exec_next c s
    exact ⟨t, ht, exec_pending c s t ht⟩
  · have hstep : step s = .next s.idle := by rw [step, hnone]
    rw [hstep, State.idle]
    split_ifs <;> rfl

end Sys2Proof.Safety
end

section
/-! SUPPORT. RESTART, START_SERVICE and SET_SITE_CODE, and the proof of O38 (R173, R178, R191). -/

namespace Sys2Proof.Safety

open Sys2Proof.Machine

theorem exec_restart (s : State) : exec .restart s = .next (s.serve (isOp 19) handleRestart) := rfl

theorem exec_startService (s : State) :
    exec .startService s = .next (s.serve (isOp 20) handleStartService) := rfl

theorem exec_setSiteCode (s : State) :
    exec .setSiteCode s = .next (s.serve (isOp 22) handleSetSiteCode) := rfl

/-- A part that works and is not UNCONFIGURED is RUNNING (R190). -/
theorem Working.running {s : State} (h : Working s) (hconfigured : s.partState ≠ .unconfigured) :
    s.partState = .running := by
  obtain ⟨-, hloaded⟩ := h
  cases hpart : s.partState with
  | loading => exact absurd hpart hloaded
  | running => rfl
  | unconfigured => exact absurd hpart hconfigured

/-- Settles O38: each command passes its two checks; START_SERVICE meets a part that is UNCONFIGURED or RUNNING
already, SET_SITE_CODE a record that is LOCKED or not. -/
theorem restartServiceAndSiteCode : Obligations.RestartServiceAndSiteCode := by
  intro s p rest
  refine ⟨fun h => ?_, fun h => ?_, fun h => ?_⟩
  · have hdone := h.done (exec_restart s) (h.checkCommand _)
    exact hdone
  · by_cases hpart : s.partState = .unconfigured
    · exact h.done (exec_startService s) ((h.checkCommand _).trans (if_pos hpart))
    · have hdone := h.done (exec_startService s) ((h.checkCommand _).trans (if_neg hpart))
      rw [← h.asked.1.running hpart]
      exact hdone
  · split_ifs with hlocked
    · exact h.refused (exec_setSiteCode s) ((h.checkCommand _).trans (if_pos hlocked))
    · exact h.done (exec_setSiteCode s) ((h.checkCommand _).trans (if_neg hlocked))

end Sys2Proof.Safety
end

section
/-! SUPPORT. WRITE of the Settings record, item by item, and the proof of O49 (R1, R53, R57, R80, R113, R167, R176, R179). -/

namespace Sys2Proof.Safety

open Sys2Proof.Machine

/-! ## The checks and the clamps (R167, R176, R179) -/

/-- The bytes of a WRITE of an item are the ten before the record and the item's own (12.4). -/
theorem settingNeed_eq (item : Nat) : settingNeed item = 10 + settingSize item := by
  unfold settingNeed settingSize
  split_ifs with h4 h11 h13
  · subst h4; rfl
  · subst h11; rfl
  · subst h13; rfl
  · split
    · exact absurd rfl h4
    · exact absurd rfl h11
    · exact absurd rfl h13
    · rfl

/-- The number may be the own or the head-end station: it is not the other one and no group's (R6, R179). -/
theorem settingStationGood_iff (s : State) (n other : Nat) :
    s.settingStationGood n other = true ↔
      1 ≤ n ∧ n ≤ 126 ∧ n ≠ other ∧ ∀ g, 1 ≤ g → g ≤ 6 → (s.groupConfig g).station ≠ some n := by
  rw [← groupOfStation_eq_none_iff]
  simp [State.settingStationGood, and_assoc]

/-- A value is clamped exactly when it lies outside its range. -/
theorem clamped_code (lo hi n : Nat) :
    (if clamps lo hi n then Code.okClamped else .ok) =
      if lo ≤ n ∧ n ≤ hi then Code.ok else .okClamped := by
  have hclamps : clamps lo hi n = true ↔ ¬ (lo ≤ n ∧ n ≤ hi) := by
    simp only [clamps, Bool.or_eq_true, decide_eq_true_eq]
    omega
  by_cases h : lo ≤ n ∧ n ≤ hi
  · rw [if_pos h, if_neg (fun hc => hclamps.1 hc h)]
  · rw [if_neg h, if_pos (hclamps.2 h)]

theorem clamp_zero (hi n : Nat) : clamp 0 hi n = min hi n := Nat.zero_max _

/-- The kinds that follow the count of a relay set are all there, at most 16, and none is a handled one
(R167). -/
def Relayed (p : List Byte) : Prop :=
  numAt p 10 1 ≤ 16 ∧ ((p.drop 11).take (numAt p 10 1)).length = numAt p 10 1 ∧
    ∀ k ∈ (p.drop 11).take (numAt p 10 1), k.toNat ∉ [1, 2, 3, 4, 16, 17, 18, 19, 32, 33, 34, 35]

/-- The test that a relay set fails. -/
theorem relaySet_refused_iff (p : List Byte) :
    (decide (16 < numAt p 10 1) ||
      decide (((p.drop 11).take (numAt p 10 1)).length < numAt p 10 1) ||
      ((p.drop 11).take (numAt p 10 1)).any (fun k => handledKinds.contains k.toNat)) = true ↔
      ¬ Relayed p := by
  have hhandled : handledKinds = [1, 2, 3, 4, 16, 17, 18, 19, 32, 33, 34, 35] := rfl
  have hlength := List.length_take_le (numAt p 10 1) (p.drop 11)
  rw [Bool.or_eq_true, Bool.or_eq_true, decide_eq_true_eq, decide_eq_true_eq, List.any_eq_true,
    Relayed, hhandled, not_and_or, not_and_or, or_assoc, not_le]
  simp only [List.contains_iff_mem, not_forall, not_not, exists_prop]
  refine or_congr Iff.rfl (or_congr ?_ Iff.rfl)
  omega

theorem relaySetAt_of_relayed {p : List Byte} (h : Relayed p) :
    relaySetAt p = some ((p.drop 11).take (numAt p 10 1)).eraseDups :=
  if_neg (fun hrefused => (relaySet_refused_iff p).1 hrefused h)

theorem relaySetAt_of_not_relayed {p : List Byte} (h : ¬ Relayed p) : relaySetAt p = none :=
  if_pos ((relaySet_refused_iff p).2 h)

theorem eventSetAt_toNat (p : List Byte) (i : Nat) : (eventSetAt p i).toNat = numAt p i 3 := by
  have hlt : numAt p i 3 < 2 ^ 24 := numAt_lt p i 3
  rw [eventSetAt, BitVec.toNat_ofNat, Nat.mod_eq_of_lt hlt]

/-! ### The items that are not plain numbers -/

section
variable (s : State) {p : List Byte}

theorem newSettings_enables (h : numAt p 10 3 % 16 = 0) : s.newSettings 13 p =
    some ({ s.settings with enables := eventSetAt p 10 }, false) :=
  if_pos ((congrArg (· % 16) (eventSetAt_toNat p 10)).trans h)

theorem newSettings_enables_none (h : numAt p 10 3 % 16 ≠ 0) : s.newSettings 13 p = none :=
  if_neg (fun hgood => h ((congrArg (· % 16) (eventSetAt_toNat p 10)).symm.trans hgood))

/-- The two relay sets are taken alike (R167). -/
theorem newSettings_relaySets : s.newSettings 14 p =
      (relaySetAt p).map (fun ks => ({ s.settings with gToT := ks }, false)) ∧
    s.newSettings 15 p =
      (relaySetAt p).map (fun ks => ({ s.settings with tToG := ks }, false)) := ⟨rfl, rfl⟩

end

/-! ## Serving the WRITE -/

theorem exec_writeSettings (s : State) :
    exec .writeSettings s = .next (s.serve (isTableOp 3 12) handleWriteSettings) := rfl

section
variable {s : State} {p : List Byte} {rest : List (List Byte)} {i : Nat}

/-- The request holds the bytes of the item that it names. -/
theorem Changing.settingNeed (h : Changing s p rest 3 12 11)
    (h4 : numAt p 8 2 = 4 → 14 ≤ p.length) (h11 : numAt p 8 2 = 11 → 12 ≤ p.length)
    (h13 : numAt p 8 2 = 13 → 13 ≤ p.length) :
    Changing s p rest 3 12 (10 + settingSize (numAt p 8 2)) := by
  obtain ⟨⟨⟨hworks, hhead, hroom, hrestart, hop, -, hlength⟩, hcode⟩, htable, hsaving⟩ := h
  rw [← settingNeed_eq]
  refine ⟨⟨⟨hworks, hhead, hroom, hrestart, hop, ?_⟩, hcode⟩, htable, hsaving⟩
  unfold Safety.settingNeed
  split_ifs with g4 g11 g13
  · exact ⟨by decide, h4 g4⟩
  · exact ⟨by decide, h11 g11⟩
  · exact ⟨by decide, h13 g13⟩
  · exact ⟨by decide, hlength⟩

/-- An item whose value is taken is stored, and the response carries it as stored. -/
theorem Changing.settingStored (h : Changing s p rest 3 12 (10 + settingSize (numAt p 8 2)))
    (hi : numAt p 8 2 = i) (hlast : i ≤ 15) {new : Settings} {clamped : Bool}
    (hnew : ({ s with requests := rest } : State).newSettings i p = some (new, clamped)) :
    exec .writeSettings s = .next
      { answered s p rest (if clamped then .okClamped else .ok) (settingBytes new i) with
        tables := { s.tables with settings := new } } := by
  subst hi
  have hdone := h.done (exec_writeSettings s) rfl ((checkIndex_le_pass _ _ hlast).trans
    (by rw [show requestIndex p = numAt p 8 2 from rfl, hnew]))
  exact hdone

/-- An item whose value is not taken is refused BAD_FIELD. -/
theorem Changing.settingRefused (h : Changing s p rest 3 12 (10 + settingSize (numAt p 8 2)))
    (hi : numAt p 8 2 = i) (hlast : i ≤ 15)
    (hnew : ({ s with requests := rest } : State).newSettings i p = none) :
    exec .writeSettings s = .next (answered s p rest .badField []) := by
  subst hi
  exact h.refused (exec_writeSettings s) rfl ((checkIndex_le_pass _ _ hlast).trans
    (by rw [show requestIndex p = numAt p 8 2 from rfl, hnew]))

/-- An item whose value is clamped into its range. -/
theorem Changing.settingClamped (h : Changing s p rest 3 12 (10 + settingSize (numAt p 8 2)))
    (hi : numAt p 8 2 = i) (hlast : i ≤ 15) {new : Settings} {lo hi' n : Nat}
    (hnew : ({ s with requests := rest } : State).newSettings i p = some (new, clamps lo hi' n)) :
    exec .writeSettings s = .next
      { answered s p rest (if lo ≤ n ∧ n ≤ hi' then .ok else .okClamped) (settingBytes new i) with
        tables := { s.tables with settings := new } } := by
  rw [← clamped_code]
  exact h.settingStored hi hlast hnew

end

/-- Settles O49: each item's value is taken, clamped or refused by its row of `State.newSettings`. -/
theorem settingsItemsAreWritten : Obligations.SettingsItemsAreWritten := by
  intro s p rest i c n w stored clamped into badField free kinds relayed hshort h4 h11 h13
  have h := hshort.settingNeed h4 h11 h13
  let taken : State := { s with requests := rest }
  have hfree : ∀ other, taken.settingStationGood n other = true ↔ free n other :=
    settingStationGood_iff taken n
  obtain ⟨hgToT, htToG⟩ := newSettings_relaySets taken (p := p)
  refine ⟨fun hi => ?_, fun hi => ⟨fun hok => ?_, fun hbad => ?_⟩,
    fun hi => ⟨fun hok => ?_, fun hbad => ?_⟩, fun hi => ?_,
    fun hi => ⟨fun hok => ?_, fun hbad => ?_⟩, fun hi => ?_, fun hi => ?_, fun hi => ?_,
    fun hi => ?_, fun hi => ?_, fun hi => ⟨fun hok => ?_, fun hbad => ?_⟩, fun hi => ?_,
    fun hi => ?_, fun hi => ⟨fun hok => ?_, fun hbad => ?_⟩,
    fun hi => ⟨fun hok => ?_, fun hbad => ?_⟩, fun hi => ⟨fun hok => ?_, fun hbad => ?_⟩,
    fun hi => ⟨fun hok => ?_, fun hbad => ?_⟩⟩
  · exact h.refused (exec_writeSettings s) rfl (checkIndex_le_refuse _ _ hi)
  -- the two stations
  · exact h.settingStored hi (by decide) (if_pos ((hfree _).2 hok))
  · exact h.settingRefused hi (by decide) (if_neg (mt (hfree _).1 hbad))
  · exact h.settingStored hi (by decide) (if_pos ((hfree _).2 hok))
  · exact h.settingRefused hi (by decide) (if_neg (mt (hfree _).1 hbad))
  -- the landing count and the epoch weekday
  · exact h.settingClamped hi (by decide) rfl
  · exact h.settingStored hi (by decide) (if_pos hok)
  · exact h.settingRefused hi (by decide) (if_neg (not_le.2 hbad))
  -- the night period
  · intro l
    refine ⟨fun hok => ?_, fun hbad => ?_⟩
    · have hnight := h.settingClamped hi (by decide) (if_pos hok)
      rw [clamp_zero] at hnight
      exact hnight
    · exact h.settingRefused hi (by decide) (if_neg (not_lt.2 hbad))
  -- the Denial Monitor's counts and times
  · exact h.settingClamped hi (by decide) rfl
  · rw [← clamp_zero]
    exact h.settingClamped hi (by decide) rfl
  · exact h.settingClamped hi (by decide) rfl
  · rw [← clamp_zero]
    exact h.settingClamped hi (by decide) rfl
  · rw [← boolByte_eq_byteOf hok]
    exact h.settingStored hi (by decide) (if_pos hok)
  · exact h.settingRefused hi (by decide) (if_neg (not_le.2 hbad))
  -- the repeat guard and the transfer window
  · rw [← clamp_zero]
    exact h.settingClamped hi (by decide) rfl
  · have hwindow := h.settingClamped hi (by decide) rfl
    exact hwindow
  -- reporting and the event enables
  · rw [← boolByte_eq_byteOf hok]
    exact h.settingStored hi (by decide) (if_pos hok)
  · exact h.settingRefused hi (by decide) (if_neg (not_le.2 hbad))
  · have hdata : bytesOfNat 3 (numAt p 10 3) = bytesOfNat 3 (eventSetAt p 10).toNat :=
      congrArg (bytesOfNat 3) (eventSetAt_toNat p 10).symm
    rw [hdata]
    exact h.settingStored hi (by decide) (newSettings_enables taken hok)
  · exact h.settingRefused hi (by decide) (newSettings_enables_none taken hbad)
  -- the relay sets
  · exact h.settingStored hi (by decide)
      (hgToT.trans (congrArg (Option.map _) (relaySetAt_of_relayed hok)))
  · exact h.settingRefused hi (by decide)
      (hgToT.trans (congrArg (Option.map _) (relaySetAt_of_not_relayed hbad)))
  · exact h.settingStored hi (by decide)
      (htToG.trans (congrArg (Option.map _) (relaySetAt_of_relayed hok)))
  · exact h.settingRefused hi (by decide)
      (htToG.trans (congrArg (Option.map _) (relaySetAt_of_not_relayed hbad)))

end Sys2Proof.Safety
end

section
/-! SUPPORT. READ, FIND and READ_STATUS: what a READ of each table gives, the records in the layouts of 12.4, and the proof of O41 (R7, R27, R28, R39, R61, R125, R145, R159, R174, R175, R180, R193). -/

namespace Sys2Proof.Safety

open Sys2Proof.Machine

/-! ## Serving a READ -/

theorem exec_read (s : State) : exec .read s = .next (s.serve isRead handleRead) := rfl

theorem exec_find (s : State) : exec .find s = .next (s.serve (isTableOp 2 1) handleFind) := rfl

theorem exec_readStatus (s : State) :
    exec .readStatus s = .next (s.serve (isOp 5) handleReadStatus) := rfl

section
variable {s : State} {p : List Byte} {rest : List (List Byte)}

/-- An asked READ of a table that the part defines is the command's. -/
theorem Asked.isRead_of_table (h : Asked s p rest 1 10) (h1 : 1 ≤ requestTable p)
    (h14 : requestTable p ≤ 14) : isRead p = true := by
  have hop : requestOp p = opRead := h.op
  simp [isRead, hop, h1, h14]

/-- A READ that gives a record. -/
theorem Asked.readGives (h : Asked s p rest 1 10) (hm : isRead p = true) {data : List Byte}
    (hh : handleRead p { s with requests := rest } =
      ({ s with requests := rest } : State).acceptWith false data) :
    exec .read s = .next (answered s p rest .ok data) :=
  (exec_read s).trans (congrArg _ (h.serve_reply hm hh))

/-- A READ that is refused. -/
theorem Asked.readRefused (h : Asked s p rest 1 10) (hm : isRead p = true) {code : Code}
    (hh : handleRead p { s with requests := rest } =
      ({ s with requests := rest } : State).refuse code) :
    exec .read s = .next (answered s p rest code []) :=
  (exec_read s).trans (congrArg _ (h.serve_refuse hm hh))

end

/-! ## The table that a READ names (R175) -/

section
variable (s : State) {p : List Byte}

theorem readTable_gives {lo hi : Nat} (record : Nat → List Byte) (hlo : lo ≤ numAt p 8 2)
    (hhi : numAt p 8 2 ≤ hi) :
    s.readTable p lo hi record = s.acceptWith false (record (numAt p 8 2)) :=
  State.checkIndex_pass _ _ _ (Bool.and_eq_true_iff.2 ⟨decide_eq_true hlo, decide_eq_true hhi⟩)

theorem readTable_refuses {lo hi : Nat} (record : Nat → List Byte)
    (h : numAt p 8 2 < lo ∨ hi < numAt p 8 2) :
    s.readTable p lo hi record = s.refuse .badIndex := by
  refine checkIndex_refuse _ (fun hok => ?_) _
  obtain ⟨hlo, hhi⟩ := Bool.and_eq_true_iff.1 hok
  rcases h with h | h
  · exact h.not_ge (of_decide_eq_true hlo)
  · exact h.not_ge (of_decide_eq_true hhi)

/-- The bank byte names a bank (R39). -/
theorem bankNamed_eq (h : numAt p 7 1 ≤ 1) :
    bankNamed p = some (if numAt p 7 1 = 0 then .a else .b) := by
  unfold bankNamed requestBank
  generalize numAt p 7 1 = n at h
  interval_cases n <;> rfl

theorem bankNamed_eq_none (h : 1 < numAt p 7 1) : bankNamed p = none := by
  unfold bankNamed requestBank
  split
  · omega
  · omega
  · rfl

theorem readPolicy_gives {size : Nat} (record : PolicyBank → Nat → List Byte)
    (hi : numAt p 8 2 < size) (hbank : numAt p 7 1 ≤ 1) :
    s.readPolicy p size record = s.acceptWith false
      (record (s.bank (if numAt p 7 1 = 0 then .a else .b)) (numAt p 8 2)) := by
  refine (State.checkIndex_pass _ _ _ (decide_eq_true hi)).trans ?_
  rw [bankNamed_eq hbank]
  rfl

theorem readPolicy_refuses_index {size : Nat} (record : PolicyBank → Nat → List Byte)
    (hi : size ≤ numAt p 8 2) : s.readPolicy p size record = s.refuse .badIndex :=
  checkIndex_refuse _ (fun hok => hi.not_gt (of_decide_eq_true hok)) _

theorem readPolicy_refuses_bank {size : Nat} (record : PolicyBank → Nat → List Byte)
    (hi : numAt p 8 2 < size) (hbank : 1 < numAt p 7 1) :
    s.readPolicy p size record = s.refuse .badField := by
  refine (State.checkIndex_pass _ _ _ (decide_eq_true hi)).trans ?_
  rw [bankNamed_eq_none hbank]

/-! ### READ by table number (12.4) -/

variable (hlength : 10 ≤ p.length)
include hlength

theorem handleRead_credentials (ht : requestTable p = 1) : handleRead p s = s.readWay p :=
  (State.checkLength_pass _ _ _ _ hlength).trans (by rw [ht]; rfl)

theorem handleRead_profiles (ht : requestTable p = 2) : handleRead p s = s.readPolicy p 1024
    (fun b i => ((b.profiles.get none i).map bandBytes).getD absentMark) :=
  (State.checkLength_pass _ _ _ _ hlength).trans (by rw [ht]; rfl)

theorem handleRead_tenants (ht : requestTable p = 3) : handleRead p s = s.readPolicy p 64
    (fun b i => tenantBytes (b.tenants.get {} i)) :=
  (State.checkLength_pass _ _ _ _ hlength).trans (by rw [ht]; rfl)

theorem handleRead_holidays (ht : requestTable p = 4) : handleRead p s = s.readPolicy p 32
    (fun b i => ((b.holidays.get none i).map (bytesOfNat 2)).getD absentMark) :=
  (State.checkLength_pass _ _ _ _ hlength).trans (by rw [ht]; rfl)

theorem handleRead_landings (ht : requestTable p = 5) : handleRead p s = s.readPolicy p 128
    (fun b i => landingBytes (b.landings.get {} i)) :=
  (State.checkLength_pass _ _ _ _ hlength).trans (by rw [ht]; rfl)

theorem handleRead_groups (ht : requestTable p = 6) :
    handleRead p s = s.readTable p 1 6 s.groupRecord :=
  (State.checkLength_pass _ _ _ _ hlength).trans (by rw [ht]; rfl)

theorem handleRead_skyLobbies (ht : requestTable p = 7) : handleRead p s = s.readTable p 0 3
    (fun i => ((s.tables.skyLobbies.get none i).map (bytesOfNat 1)).getD absentMark) :=
  (State.checkLength_pass _ _ _ _ hlength).trans (by rw [ht]; rfl)

theorem handleRead_terminals (ht : requestTable p = 8) :
    handleRead p s = s.readTable p 1 64 s.terminalRecord :=
  (State.checkLength_pass _ _ _ _ hlength).trans (by rw [ht]; rfl)

theorem handleRead_formats (ht : requestTable p = 9) : handleRead p s = s.readTable p 0 7
    (fun i => formatBytes (s.tables.formats.get {} i)) :=
  (State.checkLength_pass _ _ _ _ hlength).trans (by rw [ht]; rfl)

theorem handleRead_facilities (ht : requestTable p = 10) : handleRead p s = s.readTable p 0 3
    (fun i => ((s.tables.facilities.get none i).map facilityBytes).getD absentMark) :=
  (State.checkLength_pass _ _ _ _ hlength).trans (by rw [ht]; rfl)

theorem handleRead_alarmLines (ht : requestTable p = 11) :
    handleRead p s = s.readTable p 0 7 s.lineRecord :=
  (State.checkLength_pass _ _ _ _ hlength).trans (by rw [ht]; rfl)

theorem handleRead_settings (ht : requestTable p = 12) :
    handleRead p s = s.readTable p 0 15 (settingBytes s.settings) :=
  (State.checkLength_pass _ _ _ _ hlength).trans (by rw [ht]; rfl)

theorem handleRead_trips (ht : requestTable p = 13) :
    handleRead p s = s.readTable p 0 511 s.tripRecord :=
  (State.checkLength_pass _ _ _ _ hlength).trans (by rw [ht]; rfl)

theorem handleRead_building (ht : requestTable p = 14) :
    handleRead p s = s.acceptWith false s.buildingRecord :=
  (State.checkLength_pass _ _ _ _ hlength).trans (by rw [ht]; rfl)

/-- An index outside its table is refused, whatever else the request carries. -/
theorem handleRead_refuses_index {i lo hi : Nat} (hmem : (i, lo, hi) ∈ [(1, 0, 16383), (2, 0, 1023),
      (3, 0, 63), (4, 0, 31), (5, 0, 127), (6, 1, 6), (7, 0, 3), (8, 1, 64), (9, 0, 7), (10, 0, 3),
      (11, 0, 7), (12, 0, 15), (13, 0, 511)]) (ht : requestTable p = i)
    (hn : numAt p 8 2 < lo ∨ hi < numAt p 8 2) : handleRead p s = s.refuse .badIndex := by
  have hpolicy : ∀ size record, lo = 0 → hi + 1 = size →
      s.readPolicy p size record = s.refuse .badIndex := fun size record h0 hs =>
    readPolicy_refuses_index s record (by omega)
  simp only [List.mem_cons, List.not_mem_nil, or_false, Prod.mk.injEq] at hmem
  rcases hmem with ⟨rfl, rfl, rfl⟩ | ⟨rfl, rfl, rfl⟩ | ⟨rfl, rfl, rfl⟩ | ⟨rfl, rfl, rfl⟩ |
    ⟨rfl, rfl, rfl⟩ | ⟨rfl, rfl, rfl⟩ | ⟨rfl, rfl, rfl⟩ | ⟨rfl, rfl, rfl⟩ | ⟨rfl, rfl, rfl⟩ |
    ⟨rfl, rfl, rfl⟩ | ⟨rfl, rfl, rfl⟩ | ⟨rfl, rfl, rfl⟩ | ⟨rfl, rfl, rfl⟩
  · exact (handleRead_credentials s hlength ht).trans 
      (checkIndex_le_refuse _ _ (hn.resolve_left (Nat.not_lt_zero _)))
  · exact (handleRead_profiles s hlength ht).trans (hpolicy _ _ rfl rfl)
  · exact (handleRead_tenants s hlength ht).trans (hpolicy _ _ rfl rfl)
  · exact (handleRead_holidays s hlength ht).trans (hpolicy _ _ rfl rfl)
  · exact (handleRead_landings s hlength ht).trans (hpolicy _ _ rfl rfl)
  · exact (handleRead_groups s hlength ht).trans (readTable_refuses s _ hn)
  · exact (handleRead_skyLobbies s hlength ht).trans (readTable_refuses s _ hn)
  · exact (handleRead_terminals s hlength ht).trans (readTable_refuses s _ hn)
  · exact (handleRead_formats s hlength ht).trans (readTable_refuses s _ hn)
  · exact (handleRead_facilities s hlength ht).trans (readTable_refuses s _ hn)
  · exact (handleRead_alarmLines s hlength ht).trans (readTable_refuses s _ hn)
  · exact (handleRead_settings s hlength ht).trans (readTable_refuses s _ hn)
  · exact (handleRead_trips s hlength ht).trans (readTable_refuses s _ hn)

/-- A bank byte above 1 is refused. -/
theorem handleRead_refuses_bank {i hi : Nat}
    (hmem : (i, hi) ∈ [(2, 1023), (3, 63), (4, 31), (5, 127)]) (ht : requestTable p = i)
    (hn : numAt p 8 2 ≤ hi) (hbank : 1 < numAt p 7 1) : handleRead p s = s.refuse .badField := by
  have hpolicy : ∀ size record, hi + 1 = size →
      s.readPolicy p size record = s.refuse .badField := fun size record hs =>
    readPolicy_refuses_bank s record (by omega) hbank
  simp only [List.mem_cons, List.not_mem_nil, or_false, Prod.mk.injEq] at hmem
  rcases hmem with ⟨rfl, rfl⟩ | ⟨rfl, rfl⟩ | ⟨rfl, rfl⟩ | ⟨rfl, rfl⟩
  · exact (handleRead_profiles s hlength ht).trans (hpolicy _ _ rfl)
  · exact (handleRead_tenants s hlength ht).trans (hpolicy _ _ rfl)
  · exact (handleRead_holidays s hlength ht).trans (hpolicy _ _ rfl)
  · exact (handleRead_landings s hlength ht).trans (hpolicy _ _ rfl)

end

/-! ## The frame of a READ (R174) -/

/-- The state differs from `s` in the model's counter of free bytes alone. -/
def BytesCounted (s t : State) : Prop := ∃ n, t = { s with freeCount := n }

theorem handleRead_bytesCounted (p : List Byte) (s : State) :
    BytesCounted s (handleRead p s).state := by
  have hsame : BytesCounted s s := ⟨_, rfl⟩
  have hcounted : ∀ n, BytesCounted s { s with freeCount := n } := fun n => ⟨n, rfl⟩
  have hpolicy : ∀ size record, BytesCounted s (s.readPolicy p size record).state := by
    intro size record
    refine checkIndex_keeps hsame ?_
    split
    · exact hsame
    · exact hsame
  have htable : ∀ lo hi record, BytesCounted s (s.readTable p lo hi record).state :=
    fun lo hi record => checkIndex_keeps hsame hsame
  have hway : BytesCounted s (s.readWay p).state := by
    refine checkIndex_keeps hsame ?_
    split
    · exact hsame
    · exact hcounted _
  refine checkLength_keeps hsame ?_
  split
  case h_1 => exact hway
  case h_2 | h_3 | h_4 | h_5 => exact hpolicy _ _
  case h_14 | h_15 => exact hsame
  all_goals exact htable _ _ _

/-- A READ changes the FIFOs and the counter of free bytes alone. -/
theorem Asked.read_frame {s : State} {p : List Byte} {rest : List (List Byte)}
    (h : Asked s p rest 1 10) (hm : isRead p = true) :
    ∃ c d free, exec .read s = .next { answered s p rest c d with freeCount := free } := by
  obtain ⟨n, hn⟩ := handleRead_bytesCounted p { s with requests := rest }
  have hserved := h.serve hm handleRead
  generalize handleRead p { s with requests := rest } = reply at hn hserved
  rw [hn] at hserved
  exact ⟨reply.code, reply.data, n, (exec_read s).trans (congrArg _ hserved)⟩

/-! ## The records as they are returned (12.4) -/

/-! ### Coded bytes -/

theorem optByte_eq (o : Option Nat) : optByte o = match o with
    | some n => byteOf n
    | none => 255 := by
  cases o <;> rfl

theorem bindingByte_eq (b : Binding) : byteOf b.code = match b with
    | .routed => 0
    | .fixed g => byteOf g := by
  cases b <;> rfl

theorem groupServiceByte_eq (v : GroupService) : byteOf v.code = match v with
    | .inService => 0
    | .silent => 1
    | .held => 2 := by
  cases v <;> rfl

/-- The service state of a terminal and its pending trip, 0 without one (R59). -/
theorem terminalServiceBytes_eq (v : TerminalService) :
    [byteOf v.code] ++ bytesOfNat 2 (v.pendingTrip.getD 0) = match v with
      | .idle => ([0, 0, 0] : List Byte)
      | .awaiting x => ([1] : List Byte) ++ bytesOfNat 2 x
      | .held _ => [2, 0, 0]
      | .latched => [3, 0, 0] := by
  cases v with
  | idle => rfl
  | awaiting x => rfl
  | held d =>
    show ([2] : List Byte) ++ bytesOfNat 2 0 = [2, 0, 0]
    rfl
  | latched => rfl

theorem actionByte_eq (a : AlarmAction) : byteOf a.code = match a with
    | .notify => 0
    | .lockZones => 1
    | .recall => 2 := by
  cases a <;> rfl

theorem levelByte_eq (o : Option Level) : byteOf (levelCode o) = match o with
    | some .low => 0
    | some .high => 1
    | none => 255 := by
  rcases o with _ | _ | _ <;> rfl

theorem lineStatusByte_eq (v : LineStatus) : byteOf v.code = match v with
    | .normal => 0
    | .active => 1
    | .latched => 2 := by
  cases v <;> rfl

theorem lineInForce_iff (c : LineConfig) (l : LineState) :
    lineInForce c l = true ↔ l.status ≠ .normal ∧ c.mask = false := by
  simp [lineInForce]

theorem modeByte_eq (m : BuildingMode) : byteOf m.code = if m = .recall then 1 else 0 := by
  cases m <;> rfl

theorem bankByte_eq (n : BankName) : byteOf n.code = if n = .a then 0 else 1 := by
  cases n <;> rfl

theorem siteStateByte_eq (v : SiteState) : byteOf v.code = match v with
    | .blank => 0
    | .set => 1
    | .locked => 2 := by
  cases v <;> rfl

/-! ### Records that may be absent (R13, R44, R47, R71) -/

theorem bandRecord_eq (o : Option Band) : (o.map bandBytes).getD absentMark = match o with
    | some b => [BitVec.ofNat 8 b.days.toNat] ++ bytesOfNat 2 b.start ++ bytesOfNat 2 b.length ++
      bytesOfNat 16 b.landings.toNat
    | none => [255#8] := by
  cases o <;> rfl

theorem holidayRecord_eq (o : Option Nat) :
    (o.map (bytesOfNat 2)).getD absentMark = match o with
      | some d => bytesOfNat 2 d
      | none => [255#8] := by
  cases o <;> rfl

theorem lobbyRecord_eq (o : Option Nat) : (o.map (bytesOfNat 1)).getD absentMark = match o with
    | some l => [byteOf l]
    | none => [255#8] := by
  cases o <;> rfl

theorem facilityRecord_eq (o : Option FacilityRange) :
    (o.map facilityBytes).getD absentMark = match o with
      | some r => bytesOfNat 2 r.base ++ bytesOfNat 3 r.count
      | none => [255#8] := by
  cases o <;> rfl

/-! ### The records with dynamic parts (R7, R61, R145) -/

section
variable (s : State)

theorem groupRecord_eq (g : Nat) : s.groupRecord g =
    [match (s.groupConfig g).station with
        | some st => byteOf st
        | none => 255] ++ bytesOfNat 16 (s.groupConfig g).served.toNat ++
      [byteOf (s.groupConfig g).limit, byteOf (s.groupConfig g).timeout,
        match (s.group g).service with
        | .inService => 0
        | .silent => 1
        | .held => 2, byteOf (s.group g).streak] := by
  unfold State.groupRecord groupBytes
  rw [optByte_eq, groupServiceByte_eq, List.append_assoc]
  rfl

theorem terminalRecord_eq (u : Nat) : s.terminalRecord u =
    [if (s.terminalConfig u).configured then 1 else 0, byteOf (s.terminalConfig u).origin,
      byteOf (s.terminalConfig u).format, match (s.terminalConfig u).binding with
        | .routed => 0
        | .fixed g => byteOf g,
      if (s.terminal u).absent then 1 else 0, byteOf (s.terminal u).misses] ++
    (match (s.terminal u).service with
      | .idle => ([0, 0, 0] : List Byte)
      | .awaiting x => ([1] : List Byte) ++ bytesOfNat 2 x
      | .held _ => [2, 0, 0]
      | .latched => [3, 0, 0]) ++
    [if (s.terminal u).overrun then 1 else 0, byteOf (s.terminal u).tally,
      byteOf (s.terminal u).holds] := by
  rw [← bindingByte_eq, ← terminalServiceBytes_eq]
  rfl

theorem lineRecord_eq (k : Nat) : s.lineRecord k =
    [if (s.lineConfig k).activeLow then 1 else 0, if (s.lineConfig k).edge then 1 else 0,
      byteOf (s.lineConfig k).debounce, if (s.lineConfig k).mask then 1 else 0,
      match (s.lineConfig k).action with
        | .notify => 0
        | .lockZones => 1
        | .recall => 2] ++ bytesOfNat 2 (s.lineConfig k).zones.toNat ++
    ([match (s.line k).accepted with
        | some .low => 0
        | some .high => 1
        | none => 255,
      if (s.line k).timer ≠ none then 1 else 0,
      match (s.line k).status with
        | .normal => 0
        | .active => 1
        | .latched => 2,
      if (s.line k).status ≠ .normal ∧ (s.lineConfig k).mask = false then 1 else 0] : List Byte) := by
  have htimer : boolByte (s.line k).timer.isSome = if (s.line k).timer ≠ none then 1 else 0 :=
    if_congr Option.isSome_iff_ne_none rfl rfl
  have hforce : boolByte (lineInForce (s.lineConfig k) (s.line k)) =
      if (s.line k).status ≠ .normal ∧ (s.lineConfig k).mask = false then 1 else 0 :=
    if_congr (lineInForce_iff _ _) rfl rfl
  rw [← actionByte_eq, ← levelByte_eq, ← lineStatusByte_eq, ← htimer, ← hforce]
  rfl

theorem buildingRecord_eq : s.buildingRecord = bytesOfNat 2 s.lockSet.toNat ++
    ([if s.recallFlag then 1 else 0, if s.mode = .recall then 1 else 0] : List Byte) ++
    bytesOfNat 2 s.zoneLocks.toNat := by
  rw [← modeByte_eq]
  rfl

/-! ### The status record (R180) -/

/-- The kinds in the order of their numbers. -/
theorem eventKinds_numbers : eventKinds.map EventKind.number = List.range 20 := by decide

theorem countBytes_eq : s.countBytes = eventKinds.map (fun k => byteOf (s.event k).count) := by
  rw [State.countBytes, ← eventKinds_numbers, List.map_map]
  rfl

/-- The set of the kinds whose status is set, as the sum of their weights. -/
theorem statusBytes_eq : s.statusBytes = bytesOfNat 3 ((eventKinds.map (fun k =>
    flag (2 ^ (23 - eventKinds.idxOf k)) ((s.event k).raised = true))).sum) := by
  have hsum : ∀ (weight : Nat → Nat) (ks : List Nat) n,
      ks.foldl (fun n k => n + weight k) n = n + (ks.map weight).sum := by
    intro weight ks
    induction ks with
    | nil => intro n; rfl
    | cons k ks ih => intro n; rw [List.foldl_cons, ih, List.map_cons, List.sum_cons, Nat.add_assoc]
  rw [State.statusBytes, hsum, Nat.zero_add, ← eventKinds_numbers, List.map_map]
  simp only [eventKinds_idxOf]
  rfl

theorem statusRecord_eq (h : Working s) : s.statusRecord =
    ([if s.partState = .running then 1 else 2,
      if s.saving ≠ none then 3 else if s.image ≠ none then 1 else 2] : List Byte) ++
      bytesOfNat 2 s.imageSequence ++ bytesOfNat 2 s.clock.day ++ bytesOfNat 2 s.clock.minute ++
      ([byteOf s.clock.second, if s.clock.isSet then 1 else 0,
        if s.activeBank = .a then 0 else 1] : List Byte) ++
      bytesOfNat 2 s.population ++ bytesOfNat 2 s.trips.length ++
      ([match s.siteCode.state with
        | .blank => 0
        | .set => 1
        | .locked => 2] : List Byte) ++
      bytesOfNat 3 ((eventKinds.map (fun k =>
        flag (2 ^ (23 - eventKinds.idxOf k)) ((s.event k).raised = true))).sum) ++
      bytesOfNat 3 s.tables.settings.enables.toNat ++
      eventKinds.map (fun k => byteOf (s.event k).count) := by
  have hpart : byteOf s.partState.code = if s.partState = .running then 1 else 2 := by
    obtain ⟨-, hloaded⟩ := h
    cases hp : s.partState with
    | loading => exact absurd hp hloaded
    | running | unconfigured => rfl
  have himage : byteOf s.imageCode =
      if s.saving ≠ none then 3 else if s.image ≠ none then 1 else 2 := by
    unfold State.imageCode
    cases s.saving <;> cases s.image <;> rfl
  rw [← hpart, ← himage, ← bankByte_eq, ← siteStateByte_eq, ← statusBytes_eq, ← countBytes_eq]
  rfl

end

/-! ## The proof of O41 -/

section
variable {s : State} {p : List Byte} {rest : List (List Byte)}

/-- FIND gives the entry and its way, or NOT_FOUND (R28). -/
theorem handleFind_none (hlength : 16 ≤ p.length)
    (h : s.lookupWay ⟨numAt p 10 2, numAt p 12 4⟩ = none) :
    handleFind p s = s.refuse .notFound :=
  (State.checkLength_pass _ _ _ _ hlength).trans
    (by rw [show keyAt p recordAt = ⟨numAt p 10 2, numAt p 12 4⟩ from rfl, h])

theorem handleFind_some (hlength : 16 ≤ p.length) {w : Nat} {e : BadgeEntry}
    (h : s.lookupWay ⟨numAt p 10 2, numAt p 12 4⟩ = some w) (he : s.way w = some e) :
    handleFind p s = ⟨{ s with freeCount := s.freeCount + 4 }, .ok,
      entryBytes e s.freeCount ++ bytesOfNat 2 w⟩ :=
  (State.checkLength_pass _ _ _ _ hlength).trans (by
    rw [show keyAt p recordAt = ⟨numAt p 10 2, numAt p 12 4⟩ from rfl, h]
    dsimp only
    rw [he, ← badgeBytes_eq]
    rfl)

theorem readWay_none (hi : numAt p 8 2 ≤ 16383) (h : s.way (numAt p 8 2) = none) :
    s.readWay p = s.acceptWith false [255#8] :=
  (checkIndex_le_pass s _ hi).trans
    (by rw [show requestIndex p = numAt p 8 2 from rfl, h]; rfl)

theorem readWay_some (hi : numAt p 8 2 ≤ 16383) {e : BadgeEntry}
    (h : s.way (numAt p 8 2) = some e) :
    s.readWay p = ⟨{ s with freeCount := s.freeCount + 4 }, .ok, entryBytes e s.freeCount⟩ :=
  (checkIndex_le_pass s _ hi).trans
    (by rw [show requestIndex p = numAt p 8 2 from rfl, h, ← badgeBytes_eq]; rfl)

end

/-- Settles O41: the table decides which record is read (`handleRead_credentials` to `handleRead_building`), and
each record is laid out as 12.4 says. -/
theorem readsChangeNothing : Obligations.ReadsChangeNothing := by
  intro s p rest n table gives refuses
  let taken : State := { s with requests := rest }
  refine ⟨fun h h1 h14 => ?_, fun h htable => ?_, fun h => ?_⟩
  · have hm := h.isRead_of_table h1 h14
    have hl := h.length
    refine ⟨h.read_frame hm,
      fun i lo hi hmem ht hn => h.readRefused hm (handleRead_refuses_index taken hl hmem ht hn),
      fun ht hn hw => ?_, fun ht hn e he => ?_,
      fun i hi hmem ht hn hb => h.readRefused hm (handleRead_refuses_bank taken hl hmem ht hn hb),
      fun hb => ⟨fun ht hn => ?_, fun ht hn => ?_, fun ht hn => ?_, fun ht hn => ?_⟩,
      fun ht hlo hhi => ?_, fun ht hn => ?_, fun ht hlo hhi => ?_, fun ht hn => ?_, fun ht hn => ?_,
      fun ht hn => ?_, fun ht hn => ?_, fun ht hn hnone => ?_, fun ht hn x hx => ?_, fun ht => ?_⟩
    · exact h.readGives hm ((handleRead_credentials taken hl ht).trans (readWay_none hn hw))
    · exact (exec_read s).trans (congrArg _ (h.serve_reply hm
        ((handleRead_credentials taken hl ht).trans (readWay_some hn he))))
    -- the policy tables
    · have hgives := h.readGives hm ((handleRead_profiles taken hl ht).trans
        (readPolicy_gives taken _ (Nat.lt_succ_of_le hn) hb))
      rw [bandRecord_eq] at hgives
      exact hgives
    · exact h.readGives hm ((handleRead_tenants taken hl ht).trans
        (readPolicy_gives taken _ (Nat.lt_succ_of_le hn) hb))
    · have hgives := h.readGives hm ((handleRead_holidays taken hl ht).trans
        (readPolicy_gives taken _ (Nat.lt_succ_of_le hn) hb))
      rw [holidayRecord_eq] at hgives
      exact hgives
    · exact h.readGives hm ((handleRead_landings taken hl ht).trans
        (readPolicy_gives taken _ (Nat.lt_succ_of_le hn) hb))
    -- the other tables
    · have hgives := h.readGives hm ((handleRead_groups taken hl ht).trans
        (readTable_gives taken _ hlo hhi))
      rw [groupRecord_eq] at hgives
      exact hgives
    · have hgives := h.readGives hm ((handleRead_skyLobbies taken hl ht).trans
        (readTable_gives taken _ (Nat.zero_le _) hn))
      rw [lobbyRecord_eq] at hgives
      exact hgives
    · have hgives := h.readGives hm ((handleRead_terminals taken hl ht).trans
        (readTable_gives taken _ hlo hhi))
      rw [terminalRecord_eq] at hgives
      exact hgives
    · exact h.readGives hm ((handleRead_formats taken hl ht).trans
        (readTable_gives taken _ (Nat.zero_le _) hn))
    · have hgives := h.readGives hm ((handleRead_facilities taken hl ht).trans
        (readTable_gives taken _ (Nat.zero_le _) hn))
      rw [facilityRecord_eq] at hgives
      exact hgives
    · have hgives := h.readGives hm ((handleRead_alarmLines taken hl ht).trans
        (readTable_gives taken _ (Nat.zero_le _) hn))
      rw [lineRecord_eq] at hgives
      exact hgives
    · have hgives := h.readGives hm ((handleRead_settings taken hl ht).trans
        (readTable_gives taken _ (Nat.zero_le _) hn))
      rw [settingBytes_eq _ _ hn] at hgives
      exact hgives
    · have hgives := h.readGives hm ((handleRead_trips taken hl ht).trans
        (readTable_gives taken _ (Nat.zero_le _) hn))
      rw [State.tripRecord, List.getElem?_eq_none hnone] at hgives
      exact hgives
    · have hgives := h.readGives hm ((handleRead_trips taken hl ht).trans
        (readTable_gives taken _ (Nat.zero_le _) hn))
      rw [State.tripRecord, hx] at hgives
      exact (tripBytes_eq s.now x) ▸ hgives
    · have hgives := h.readGives hm (handleRead_building taken hl ht)
      rw [buildingRecord_eq] at hgives
      exact hgives
  · intro k
    have hm : isTableOp 2 1 p = true := by
      have hop : requestOp p = 2 := h.op
      have ht : requestTable p = 1 := htable
      simp [isTableOp, hop, ht]
    refine ⟨fun hnone => ?_, fun w e hw he => ?_⟩
    · exact (exec_find s).trans (congrArg _ (h.serve_refuse hm
        (handleFind_none (s := taken) h.length hnone)))
    · exact (exec_find s).trans (congrArg _ (h.serve_reply hm
        (handleFind_some (s := taken) h.length hw he)))
  · have hstatus : handleReadStatus p taken = taken.acceptWith false taken.statusRecord :=
      State.checkLength_pass _ _ _ _ h.length
    rw [statusRecord_eq taken h.1] at hstatus
    exact (exec_readStatus s).trans (congrArg _ (h.serve_reply h.isOp hstatus))

end Sys2Proof.Safety
end

section
/-! SUPPORT. The refusals that come before a request's own checks, and the proof of O42 (R173 to R177, R193). -/

namespace Sys2Proof.Safety

open Sys2Proof.Machine

/-! ## Requests that are refused by the checks that all share (R175, R177) -/

section
variable {s : State} {p : List Byte} {rest : List (List Byte)} {op need : Nat} {c : Instr}
  {mine : List Byte → Bool} {handle : List Byte → State → Reply} {k : Reply}

/-- The request stands at the head of the request FIFO and the Agent may take it (R173). -/
def Ready (s : State) (p : List Byte) (rest : List (List Byte)) : Prop :=
  Working s ∧ s.requests = p :: rest ∧ s.responses.length < 4 ∧ s.restart = .none

theorem Ready.taken (h : Ready s p rest) (hm : mine p = true) : s.taken mine p rest := by
  obtain ⟨hworks, hhead, hroom, hrestart⟩ := h
  exact ⟨hhead, by simp [State.agentFree, hworks.operating, Config.responseRoom, hroom, hrestart], hm⟩

/-- A request that is refused, of whatever length, as long as it has its two first bytes. -/
theorem Ready.refused (h : Ready s p rest) (h2 : 2 ≤ p.length)
    (hexec : exec c s = .next (s.serve mine handle)) (hm : mine p = true) {code : Code}
    (hh : handle p { s with requests := rest } =
      ({ s with requests := rest } : State).refuse code) :
    exec c s = .next (answered s p rest code []) := by
  rw [hexec, s.serve_taken mine handle (h.taken hm), hh, State.respond_echo _ _ _ _ h2]
  rfl

/-- A wrong site code raises AUTH_FAILED and is answered NOT_AUTHORIZED (R177). -/
theorem Asked.unauthorized (h : Asked s p rest op need)
    (hexec : exec c s = .next (s.serve mine handle)) (hm : mine p = true)
    (hh : handle p { s with requests := rest } =
      ({ s with requests := rest } : State).checkCommand p need k)
    (hcode : BitVec.ofNat 32 (numAt p 2 4) ≠ s.siteCode.code) :
    ∃ t, exec c s = .next t ∧ Counted s t .authFailed ∧
      t = { answered s p rest .notAuthorized [] with events := t.events, notices := t.notices } := by
  have hrefused : handle p { s with requests := rest } =
      (({ s with requests := rest } : State).raise .authFailed).refuse .notAuthorized :=
    hh.trans ((State.checkLength_pass _ _ _ _ h.length).trans (State.checkCode_fail _ _ _ hcode))
  exact ⟨_, hexec.trans (congrArg _ (h.serve_reply hm hrefused)), counted_raise s .authFailed, rfl⟩

/-- A change that meets a save in progress is answered BUSY (R175). -/
theorem Commanded.busy (h : Commanded s p rest op need)
    (hexec : exec c s = .next (s.serve mine handle)) (hm : mine p = true)
    (hh : handle p { s with requests := rest } =
      ({ s with requests := rest } : State).checkChange p need k) (hsaving : s.saving ≠ none) :
    exec c s = .next (answered s p rest .busy []) := by
  have hbusy : ({ s with requests := rest } : State).checkSaving k =
      ({ s with requests := rest } : State).refuse .busy :=
    if_pos (Option.isSome_iff_ne_none.2 hsaving)
  exact hexec.trans (congrArg _ (h.asked.serve_refuse hm
    (hh.trans ((h.checkCommand _).trans hbusy))))

end

/-! ## The operations and their checks (12.4, R175)

`readings`, `changes` and `orders` list the operations. Whatever one of them does, its handling begins with
the check of the length; the orders go on with the site code, the changes with the site code and the save. -/

/-- The request names the operation, and the operation's table if it has one. -/
def Names (p : List Byte) (o : Operation) : Prop :=
  numAt p 1 1 = o.code ∧ ∀ n, o.table = some n → numAt p 6 1 = n

/-- The command takes the requests that name the operation, and handles each by the check of its length and
then by `checks`. -/
def Checked (checks : State → List Byte → Reply → Reply) (o : Operation) : Prop :=
  ∃ mine handle, (∀ s, exec o.command s = .next (s.serve mine handle)) ∧
    (∀ p, Names p o → mine p = true) ∧
    ∀ p u, ∃ k, handle p u = u.checkLength p (o.needOf p) (checks u p k)

/-- The checks of an order that follow the length: the site code. -/
def codeCheck (u : State) (p : List Byte) (k : Reply) : Reply := u.checkCode p k

/-- The checks of a change that follow the length: the site code and the save. -/
def changeChecks (u : State) (p : List Byte) (k : Reply) : Reply := u.checkCode p (u.checkSaving k)

section
variable {checks : State → List Byte → Reply → Reply} {o : Operation}

/-- The test by which the Agent knows the requests of an operation other than READ. -/
def Operation.test (o : Operation) (p : List Byte) : Bool :=
  match o.table with
  | some n => isTableOp o.code n p
  | none => isOp o.code p

theorem Names.test {p : List Byte} (h : Names p o) : o.test p = true := by
  obtain ⟨hop, htable⟩ := h
  have hop' : requestOp p = o.code := hop
  unfold Operation.test
  split
  · next n hn =>
    have htable' : requestTable p = n := htable n hn
    simp [isTableOp, hop', htable']
  · simp [isOp, hop']

theorem checked_of_test {handle : List Byte → State → Reply}
    (hexec : ∀ s, exec o.command s = .next (s.serve o.test handle))
    (hh : ∀ p u, ∃ k, handle p u = u.checkLength p (o.needOf p) (checks u p k)) :
    Checked checks o :=
  ⟨_, _, hexec, fun _ h => h.test, hh⟩

/-- Of the checks, the one of the length alone. -/
theorem Checked.length (h : Checked checks o) : Checked (fun _ _ k => k) o := by
  obtain ⟨mine, handle, hexec, hm, hh⟩ := h
  refine ⟨mine, handle, hexec, hm, fun p u => ?_⟩
  obtain ⟨k, hk⟩ := hh p u
  exact ⟨_, hk⟩

/-- A change has the checks of an order and one more. -/
theorem Checked.code (h : Checked changeChecks o) : Checked codeCheck o := by
  obtain ⟨mine, handle, hexec, hm, hh⟩ := h
  refine ⟨mine, handle, hexec, hm, fun p u => ?_⟩
  obtain ⟨k, hk⟩ := hh p u
  exact ⟨u.checkSaving k, hk⟩

end

/-- A WRITE of the Settings record needs the bytes of the item it names. -/
theorem writeSettings_checked : Checked changeChecks ⟨.writeSettings, 3, some 12, 14⟩ :=
  checked_of_test (fun _ => rfl) fun p u =>
    ⟨_, congrArg (fun need => u.checkLength p need _) (settingNeed_eq (numAt p 8 2)).symm⟩

theorem changes_checked : ∀ o ∈ changes, Checked changeChecks o := by
  simp only [changes, List.forall_mem_cons]
  refine ⟨?_, ?_, ?_, ?_, ?_, ?_, ?_, ?_, ?_, ?_, ?_, ?_, ?_, ?_, ?_, ?_, ?_, ?_, ?_, ?_, ?_, ?_,
    writeSettings_checked, ?_, ?_, ?_, nofun⟩
  all_goals exact checked_of_test (fun _ => rfl) fun _ _ => ⟨_, rfl⟩

theorem orders_checked : ∀ o ∈ orders, Checked codeCheck o := by
  simp only [orders, List.forall_mem_cons]
  refine ⟨?_, ?_, ?_, ?_, ?_, ?_, ?_, ?_, ?_, ?_, ?_, ?_, ?_, nofun⟩
  all_goals exact checked_of_test (fun _ => rfl) fun _ _ => ⟨_, rfl⟩

theorem readings_checked : ∀ o ∈ readings, Checked (fun _ _ k => k) o := by
  refine List.forall_mem_append.2 ⟨fun o hread => ?_, ?_⟩
  · obtain ⟨n, hn, rfl⟩ := List.mem_map.1 hread
    refine ⟨isRead, handleRead, fun _ => rfl, fun p h => ?_, fun _ _ => ⟨_, rfl⟩⟩
    obtain ⟨hop, htable⟩ := h
    have hop' : requestOp p = opRead := hop
    have htable' : requestTable p = n := htable n rfl
    rw [List.mem_range'_1] at hn
    simp only [isRead, htable', Bool.and_eq_true, decide_eq_true_eq]
    exact ⟨⟨hop', hn.1⟩, Nat.le_of_lt_succ hn.2⟩
  · rw [List.forall_mem_cons, List.forall_mem_cons]
    refine ⟨?_, ?_, nofun⟩
    all_goals exact checked_of_test (fun _ => rfl) fun _ _ => ⟨_, rfl⟩

theorem operations_checked : ∀ o ∈ readings ++ changes ++ orders, Checked (fun _ _ k => k) o := by
  intro o ho
  rcases List.mem_append.1 ho with ho | ho
  · rcases List.mem_append.1 ho with ho | ho
    · exact readings_checked o ho
    · exact (changes_checked o ho).length
  · exact (orders_checked o ho).length

section
variable {s : State} {p : List Byte} {rest : List (List Byte)} {o : Operation}

/-- A request shorter than its operation's fixed fields is BAD_FIELD, whatever else it carries. -/
theorem Ready.short (h : Ready s p rest) (h2 : 2 ≤ p.length) (hnames : Names p o)
    (ho : Checked (fun _ _ k => k) o) (hshort : p.length < o.needOf p) :
    exec o.command s = .next (answered s p rest .badField []) := by
  obtain ⟨mine, handle, hexec, hm, hh⟩ := ho
  obtain ⟨k, hk⟩ := hh p { s with requests := rest }
  exact h.refused h2 (hexec s) (hm p hnames) (hk.trans (State.checkLength_fail _ _ _ _ hshort))

theorem Asked.unauthorized_operation (h : Asked s p rest o.code (o.needOf p)) (hnames : Names p o)
    (ho : Checked codeCheck o) (hcode : BitVec.ofNat 32 (numAt p 2 4) ≠ s.siteCode.code) :
    ∃ t, exec o.command s = .next t ∧ Counted s t .authFailed ∧
      t = { answered s p rest .notAuthorized [] with events := t.events, notices := t.notices } := by
  obtain ⟨mine, handle, hexec, hm, hh⟩ := ho
  obtain ⟨k, hk⟩ := hh p { s with requests := rest }
  exact h.unauthorized (hexec s) (hm p hnames) hk hcode

theorem Commanded.busy_operation (h : Commanded s p rest o.code (o.needOf p)) (hnames : Names p o)
    (ho : Checked changeChecks o) (hsaving : s.saving ≠ none) :
    exec o.command s = .next (answered s p rest .busy []) := by
  obtain ⟨mine, handle, hexec, hm, hh⟩ := ho
  obtain ⟨k, hk⟩ := hh p { s with requests := rest }
  exact h.busy (hexec s) (hm p hnames) hk hsaving

end

/-- Every WRITE of the Settings record needs 11 bytes at least. -/
theorem settingNeed_ge (item : Nat) : 11 ≤ settingNeed item := by
  unfold settingNeed
  split_ifs <;> decide

/-! ## Undefined requests (R175) -/

theorem exec_undefinedOperation (s : State) :
    exec .undefinedOperation s = .next (s.serve isUndefined handleUndefined) := rfl

/-- The operation code is none that the part defines (12.4). -/
def NoOperation (op : Nat) : Prop := op = 0 ∨ (6 ≤ op ∧ op ≤ 15) ∨ 32 ≤ op

/-- The table is none that the part defines, or it does not accept the operation (R175). -/
def NoTable (op table : Nat) : Prop :=
  (op = 1 ∧ (table = 0 ∨ 15 ≤ table)) ∨ (op = 2 ∧ table ≠ 1) ∨
    (op = 3 ∧ (table = 0 ∨ 13 ≤ table)) ∨ (op = 4 ∧ (table = 0 ∨ 12 ≤ table))

section
variable {p : List Byte} (s : State)

theorem opDefined_eq_false (h : NoOperation (requestOp p)) : opDefined p = false := by
  unfold NoOperation at h
  rw [← Bool.not_eq_true]
  simp only [opDefined, Bool.or_eq_true, Bool.and_eq_true, decide_eq_true_eq]
  omega

theorem isUndefined_of_noOperation (h : NoOperation (requestOp p)) : isUndefined p = true := by
  simp [isUndefined, opDefined_eq_false h]

theorem handleUndefined_of_noOperation (h : NoOperation (requestOp p)) :
    handleUndefined p s = s.refuse .badField :=
  if_pos (by rw [opDefined_eq_false h]; rfl)

/-- The operation of such a request is READ, FIND, WRITE or ERASE. -/
theorem NoTable.op {op table : Nat} (h : NoTable op table) : 1 ≤ op ∧ op ≤ 4 := by
  unfold NoTable at h
  omega

theorem opDefined_of_noTable (h : NoTable (requestOp p) (requestTable p)) : opDefined p = true := by
  have hop := h.op
  simp only [opDefined, Bool.or_eq_true, Bool.and_eq_true, decide_eq_true_eq]
  omega

theorem tableAccepts_eq_false (h : NoTable (requestOp p) (requestTable p)) :
    tableAccepts p = false := by
  unfold NoTable at h
  rw [← Bool.not_eq_true]
  simp only [tableAccepts, isRead, isTableOp, isOp, Bool.or_eq_true, Bool.and_eq_true,
    decide_eq_true_eq]
  simp only [opRead, opFind, opWrite, opErase, tabCredential]
  omega

theorem isUndefined_of_noTable (h : NoTable (requestOp p) (requestTable p)) :
    isUndefined p = true := by
  have hop := h.op
  simp [isUndefined, namesTable, tableAccepts_eq_false h, hop]

/-- The fixed fields of such a request (assumption log 12). -/
theorem undefinedNeed_eq (p : List Byte) :
    undefinedNeed p = if requestOp p = 2 then 16 else 10 :=
  if_congr decide_eq_true_iff rfl rfl

theorem handleUndefined_of_noTable (h : NoTable (requestOp p) (requestTable p)) :
    handleUndefined p s = s.checkLength p (if requestOp p = 2 then 16 else 10)
      (if isOp opWrite p || isOp opErase p then s.checkCode p (s.checkSaving (s.refuse .badTable))
        else s.refuse .badTable) := by
  rw [← undefinedNeed_eq]
  exact if_neg (by rw [opDefined_of_noTable h]; decide)

/-- A WRITE or ERASE of such a table passes the checks of a change first. -/
theorem handleUndefined_change (h : NoTable (requestOp p) (requestTable p))
    (hop : requestOp p = 3 ∨ requestOp p = 4) :
    handleUndefined p s = s.checkChange p 10 (s.refuse .badTable) := by
  have hchange : (isOp opWrite p || isOp opErase p) = true := by
    simp only [isOp, Bool.or_eq_true, decide_eq_true_eq]
    exact hop
  rw [handleUndefined_of_noTable s h, if_pos hchange, if_neg (by omega)]
  rfl

/-- A READ or FIND of such a table is BAD_TABLE. -/
theorem handleUndefined_reading (h : NoTable (requestOp p) (requestTable p))
    (hop : requestOp p = 1 ∨ requestOp p = 2)
    (hlength : (if requestOp p = 2 then 16 else 10) ≤ p.length) :
    handleUndefined p s = s.refuse .badTable := by
  have hreading : ¬ (isOp opWrite p || isOp opErase p) = true := by
    simp only [isOp, Bool.or_eq_true, decide_eq_true_eq]
    simp only [opWrite, opErase]
    omega
  rw [handleUndefined_of_noTable s h, if_neg hreading, State.checkLength_pass _ _ _ _ hlength]

end

section
variable {s : State} {p : List Byte} {rest : List (List Byte)}

/-- A request without an operation byte: what the answer echoes in its place is free (assumption log 11). -/
theorem Ready.withoutOperation (h : Ready s p rest) (h2 : p.length < 2) :
    ∃ number operation free, (p.length = 1 → number = p.getD 0 0) ∧
      exec .undefinedOperation s = .next { s with
        requests := rest, responses := s.responses ++ [⟨number, operation, .badField, []⟩]
        freeCount := free } := by
  have hop : numAt p 1 1 = 0 := by
    rw [numAt, List.drop_eq_nil_of_le (Nat.le_of_lt_succ h2)]
    rfl
  have hserved := s.serve_taken isUndefined handleUndefined
    (h.taken (isUndefined_of_noOperation (.inl hop)))
  rw [handleUndefined_of_noOperation _ (.inl hop)] at hserved
  refine ⟨p.getD 0 (Config.freeByte s.freeCount), _, _, fun h1 => ?_,
    (exec_undefinedOperation s).trans (congrArg _ hserved)⟩
  obtain ⟨b, rfl⟩ := List.length_eq_one_iff.1 h1
  rfl

/-- An undefined operation is BAD_FIELD. -/
theorem Ready.noOperation (h : Ready s p rest) (h2 : 2 ≤ p.length)
    (hop : NoOperation (requestOp p)) :
    exec .undefinedOperation s = .next (answered s p rest .badField []) :=
  h.refused h2 (exec_undefinedOperation s) (isUndefined_of_noOperation hop)
    (handleUndefined_of_noOperation _ hop)

end

section
variable {s : State} {p : List Byte} {rest : List (List Byte)} {op need : Nat}

theorem Asked.ready (h : Asked s p rest op need) : Ready s p rest := by
  obtain ⟨hworks, hhead, hroom, hrestart, -⟩ := h
  exact ⟨hworks, hhead, hroom, hrestart⟩

/-- A READ or FIND of a table that does not accept it is BAD_TABLE. -/
theorem Asked.noTableRead (h : Asked s p rest op need) (hop : requestOp p = 1 ∨ requestOp p = 2)
    (hno : NoTable (requestOp p) (requestTable p))
    (hlength : (if requestOp p = 2 then 16 else 10) ≤ p.length) :
    exec .undefinedOperation s = .next (answered s p rest .badTable []) :=
  (exec_undefinedOperation s).trans (congrArg _ (h.serve_refuse (isUndefined_of_noTable hno)
    (handleUndefined_reading _ hno hop hlength)))

/-- A WRITE or ERASE of a table that does not accept it, with the site code and without a save. -/
theorem Commanded.noTableChange (h : Commanded s p rest op 10)
    (hop : requestOp p = 3 ∨ requestOp p = 4) (hno : NoTable (requestOp p) (requestTable p))
    (hsaving : s.saving = none) :
    exec .undefinedOperation s = .next (answered s p rest .badTable []) :=
  (exec_undefinedOperation s).trans (congrArg _ (h.asked.serve_refuse (isUndefined_of_noTable hno)
    ((handleUndefined_change _ hno hop).trans (h.checkChange hsaving _))))

end

/-- Settles O42: every operation's handling begins with the checks that it shares with the others (`Checked`), and
UNDEFINED_OPERATION's by the request's operation and table (`NoOperation`, `NoTable`). -/
theorem refusedRequestsChangeNothing : Obligations.RefusedRequestsChangeNothing := by
  intro s p rest table undefinedIs strange
  refine ⟨fun hworks hhead hroom hrestart => ?_, fun op bad hmem h hbad => ?_, fun op h hop => ?_,
    fun h hbad => ?_, fun h hbad => ?_, fun h hsaving hbad => ?_, fun h hsaving hbad => ?_,
    fun o htable => ⟨fun ho h hcode => ?_, fun ho h hsaving => ?_⟩⟩
  · have hready : Ready s p rest := ⟨hworks, hhead, hroom, hrestart⟩
    refine ⟨hready.withoutOperation, fun h2 o ho hop htable hshort => ?_,
      fun hop htable item need hmem h10 hitem hshort => ?_, fun h2 hstrange hshort => ?_,
      fun h2 hop => hready.noOperation h2 hop⟩
    · refine hready.short h2 ⟨hop, htable⟩ (operations_checked o ho) (hshort.trans_le ?_)
      unfold Operation.needOf
      split_ifs
      · exact settingNeed_ge _
      · exact le_rfl
    · have hneed : need = settingNeed (numAt p 8 2) := by
        rw [hitem]
        simp only [List.mem_cons, List.not_mem_nil, or_false, Prod.mk.injEq] at hmem
        rcases hmem with ⟨rfl, rfl⟩ | ⟨rfl, rfl⟩ | ⟨rfl, rfl⟩ <;> rfl
      exact hready.short (o := ⟨.writeSettings, 3, some 12, 14⟩) (by omega)
        ⟨hop, fun n hn => htable.trans (Option.some.inj hn)⟩ writeSettings_checked.length
        (hshort.trans_eq hneed)
    · exact hready.refused h2 (exec_undefinedOperation s) (isUndefined_of_noTable hstrange)
        ((handleUndefined_of_noTable _ hstrange).trans (State.checkLength_fail _ _ _ _ hshort))
  · have hop : requestOp p = op := h.op
    have hno : NoTable (requestOp p) table ∧ (requestOp p = 3 ∨ requestOp p = 4) := by
      simp only [List.mem_cons, List.not_mem_nil, or_false, Prod.mk.injEq] at hmem
      unfold NoTable
      omega
    obtain ⟨hno, hchange⟩ := hno
    have hm := isUndefined_of_noTable hno
    have hhandle := handleUndefined_change { s with requests := rest } hno hchange
    exact ⟨h.unauthorized (exec_undefinedOperation s) hm hhandle,
      fun hcommanded => hcommanded.busy (exec_undefinedOperation s) hm hhandle⟩
  · have hno : NoOperation (requestOp p) := h.op.symm ▸ hop
    exact h.ready.noOperation (h.length.trans' (by decide)) hno
  · exact h.noTableRead (.inl h.op) (.inl ⟨h.op, hbad⟩)
      (by rw [if_neg (by rw [h.op]; decide)]; exact h.length)
  · exact h.noTableRead (.inr h.op) (.inr (.inl ⟨h.op, hbad⟩))
      (by rw [if_pos h.op]; exact h.length)
  · exact h.noTableChange (.inl h.asked.op) (.inr (.inr (.inl ⟨h.asked.op, hbad⟩))) hsaving
  · exact h.noTableChange (.inr h.asked.op) (.inr (.inr (.inr ⟨h.asked.op, hbad⟩))) hsaving
  · have hchecked : Checked codeCheck o := (List.mem_append.1 ho).elim
      (fun hchange => (changes_checked o hchange).code) (orders_checked o)
    exact h.unauthorized_operation ⟨h.op, htable⟩ hchecked hcode
  · exact h.busy_operation ⟨h.asked.op, htable⟩ (changes_checked o ho) hsaving

end Sys2Proof.Safety
end

section
/-! SUPPORT. What bears on the canonical form of the tables, and the writes of a record that keep it: the shared operations (assumption log 23). -/

namespace Sys2Proof.Safety

open Sys2Proof.Machine

/-! ## The stores of a state -/

/-- All that the canonical form speaks of: the tables in RAM, the image and the save, and the stores of the dynamic
state. -/
def storeParts (s : State) :=
  (s.tables, s.image, s.saving, s.terminals, s.groups, s.inputs, s.lines, s.events)

section
variable {s t : State}

theorem Canonical.of_parts (h : Canonical s) (e : storeParts t = storeParts s) : Canonical t := by
  simp only [storeParts, Prod.mk.injEq] at e
  obtain ⟨htables, himage, hsaving, hterminals, hgroups, hinputs, hlines, hevents⟩ := e
  unfold Canonical EveryTables
  rw [htables, himage, hsaving, hterminals, hgroups, hinputs, hlines, hevents]
  exact h

theorem Canonical.ite (h : Canonical s) (h' : Canonical t) {c : Prop} [Decidable c] :
    Canonical (if c then s else t) := by
  split_ifs
  · exact h
  · exact h'

/-! ## One record of the dynamic state is written -/

theorem Canonical.terminals (h : Canonical s) {terminals : Store TerminalState}
    (hwf : Store.wf {} terminals = true) : Canonical { s with terminals := terminals } := by
  obtain ⟨htables, -, hrest⟩ := h
  exact ⟨htables, hwf, hrest⟩

theorem Canonical.setTerminal (h : Canonical s) (u : Nat) (v : TerminalState) :
    Canonical (s.setTerminal u v) :=
  h.terminals (Store.wf_set _ _ _ _ h.2.1)

theorem Canonical.groups (h : Canonical s) {groups : Store GroupState}
    (hwf : Store.wf {} groups = true) : Canonical { s with groups := groups } := by
  obtain ⟨htables, hterminals, -, hrest⟩ := h
  exact ⟨htables, hterminals, hwf, hrest⟩

theorem Canonical.setGroup (h : Canonical s) (g : Nat) (v : GroupState) :
    Canonical (s.setGroup g v) :=
  h.groups (Store.wf_set _ _ _ _ h.2.2.1)

theorem Canonical.setInput (h : Canonical s) (k : Nat) (v : Level) :
    Canonical { s with inputs := s.inputs.set .high k v } := by
  obtain ⟨htables, hterminals, hgroups, hinputs, hrest⟩ := h
  exact ⟨htables, hterminals, hgroups, Store.wf_set _ _ _ _ hinputs, hrest⟩

theorem Canonical.setLine (h : Canonical s) (k : Nat) (v : LineState) :
    Canonical (s.setLine k v) := by
  obtain ⟨htables, hterminals, hgroups, hinputs, hlines, hevents⟩ := h
  exact ⟨htables, hterminals, hgroups, hinputs, Store.wf_set _ _ _ _ hlines, hevents⟩

theorem Canonical.raise (h : Canonical s) (k : EventKind) : Canonical (s.raise k) := by
  obtain ⟨htables, hterminals, hgroups, hinputs, hlines, hevents⟩ := h
  exact ⟨htables, hterminals, hgroups, hinputs, hlines,
    Store.wf_set _ s.events k.number (s.event k).occurred hevents⟩

/-- Clearing kinds unlists them (R183). -/
theorem Canonical.clearKinds (h : Canonical s) (set : EventSet) :
    Canonical { s with events := clearKinds set s.events } := by
  obtain ⟨htables, hterminals, hgroups, hinputs, hlines, hevents⟩ := h
  exact ⟨htables, hterminals, hgroups, hinputs, hlines, Store.wf_filter _ _ _ hevents⟩

/-! ## Answers, trips and calls (R59, R103, R105, R121, R138, R139, R141) -/

theorem Canonical.placeAnswer (h : Canonical s) (a : Answer) : Canonical (s.placeAnswer a) := by
  have hplaced : Canonical { s with answers := s.answers ++ [a] } := h.of_parts rfl
  exact (hplaced.setTerminal _ _).ite hplaced

theorem Canonical.endAwait (h : Canonical s) (x : Trip) (a : Answer) :
    Canonical (s.endAwait x a) :=
  ((h.setTerminal _ _).placeAnswer a).ite h

theorem Canonical.failTrip (h : Canonical s) (n : Nat) (r : Reason) :
    Canonical (s.failTrip n r) := by
  unfold State.failTrip
  split
  · exact h
  · exact Canonical.endAwait (h.of_parts (by rfl)) _ _

theorem Canonical.foldl_failTrip (h : Canonical s) (calls : List Call) (r : Reason) :
    Canonical (calls.foldl (fun s c => s.failTrip c.trip r) s) := by
  induction calls generalizing s with
  | nil => exact h
  | cons c calls ih => exact ih (h.failTrip c.trip r)

theorem Canonical.withdrawQueue (h : Canonical s) (g : Nat) : Canonical (s.withdrawQueue g) :=
  (h.setGroup g _).foldl_failTrip _ _

theorem Canonical.placeCancel (h : Canonical s) (c : Cancel) : Canonical (s.placeCancel c) := by
  rcases s.placeCancel_cases c with ⟨-, e⟩ | ⟨-, -, e⟩ | ⟨-, -, e⟩ <;> rw [e]
  · exact h
  · exact h.of_parts rfl
  · exact h.raise _

theorem Canonical.signOfLife (h : Canonical s) (g : Nat) : Canonical (s.signOfLife g) :=
  ((h.setGroup g _).raise _).ite h

/-- A frame that is handed on is a sign of life of its source's group (R138). -/
theorem Canonical.handOn (h : Canonical s) (f : Frame) : Canonical (s.handOn f) := by
  have hidle : Canonical { s with gReceiver := .idle } := h.of_parts rfl
  unfold State.handOn State.signOfLifeFrom
  split
  · exact hidle
  · exact hidle.signOfLife _

/-! ## Alarm lines and the building mode (R146 to R149, R152, R155, R156) -/

theorem Canonical.raiseLine (h : Canonical s) (c : LineConfig) (k : EventKind) :
    Canonical (s.raiseLine c k) :=
  h.ite (h.raise k)

theorem Canonical.followActive (h : Canonical s) (k : Nat) (was : Bool) :
    Canonical (s.followActive k was) := by
  have hmoved := h.setLine k
  exact Canonical.ite ((hmoved _).raiseLine _ _) (((hmoved _).raiseLine _ _).ite (hmoved _))

theorem Canonical.endTrips (h : Canonical s) (trips : List Trip) : Canonical (endTrips s trips) := by
  induction trips generalizing s with
  | nil => exact h
  | cons x trips ih => exact ih (h.endAwait x _)

/-- Recall entry clears every listed group and releases every listed terminal (R142, R156). -/
theorem Canonical.recallEntry (h : Canonical s) : Canonical s.recallEntry := by
  have hcleared : Canonical { s with
      groups := s.groups.mapValues {} GroupState.cleared, cancels := [], trips := [] } :=
    (h.groups (Store.wf_mapValues _ _ _ h.2.2.1)).of_parts rfl
  have hended := hcleared.endTrips s.trips
  exact (hended.terminals (Store.wf_mapValues _ _ _ hended.2.1)).raise _

theorem Canonical.formMode (h : Canonical s) : Canonical s.formMode := by
  rcases s.formMode_cases with ⟨-, e⟩ | ⟨-, -, e⟩ | ⟨-, -, e⟩ <;> rw [e]
  · exact h
  · exact Canonical.recallEntry (h.of_parts (by rfl))
  · exact Canonical.raise (h.of_parts (by rfl)) _

theorem Canonical.acceptLevel (h : Canonical s) (k : Nat) (v : Level) :
    Canonical (s.acceptLevel k v) :=
  ((h.setLine k _).followActive k _).formMode

theorem Canonical.startDebounce (h : Canonical s) (k : Nat) : Canonical (s.startDebounce k) :=
  (h.acceptLevel k _).ite (h.setLine k _)

theorem Canonical.watchInput (h : Canonical s) (k : Nat) (v : Level) :
    Canonical (s.watchInput k v) :=
  (h.setLine k _).ite (h.startDebounce k)

theorem Canonical.foldl_startDebounce (h : Canonical s) (ks : List Nat) :
    Canonical (ks.foldl State.startDebounce s) := by
  induction ks generalizing s with
  | nil => exact h
  | cons k ks ih => exact ih (h.startDebounce k)

theorem Canonical.unlatch (h : Canonical s) (k : Nat) : Canonical (s.unlatch k) :=
  ((h.setLine k _).raiseLine _ _).formMode

/-! ## The decision (R74 to R77, R82, R99 to R106, R119, R122, R185) -/

theorem Canonical.countDenial (h : Canonical s) (u : Nat) : Canonical (s.countDenial u) := by
  have hcounted := h.setTerminal u
  exact Canonical.ite (Canonical.ite ((hcounted _).raise _) ((hcounted _).raise _)) (hcounted _)

theorem Canonical.deny (h : Canonical s) (u : Nat) (r : Reason) (destination : Option Nat) :
    Canonical (s.deny u r destination) :=
  ((h.countDenial u).placeAnswer _).ite (h.placeAnswer _)

theorem Canonical.supersede (h : Canonical s) (x : Trip) : Canonical (s.supersede x) := by
  have hremoved : ∀ {u : State}, Canonical u → Canonical (u.removeTrip x.number) :=
    fun hu => hu.of_parts rfl
  unfold State.supersede
  dsimp only
  split
  · exact hremoved ((h.setGroup _ _).endAwait x _)
  · exact hremoved (((h.setGroup _ _).placeCancel _).endAwait x _)
  · exact hremoved (h.placeCancel _)
  · exact hremoved (h.placeCancel _)

theorem Canonical.makeRoom (h : Canonical s) : Canonical s.makeRoom :=
  Canonical.ite (h.of_parts (by rfl)) h

/-- The key's record is superseded and room made; the new trip's call is queued, and its terminal awaits it. -/
theorem Canonical.createTrip (h : Canonical s) (u : Nat) (key : BadgeKey) (final g : Nat)
    (transfer : Option Nat) (needs : Bool) :
    Canonical (s.createTrip u key final g transfer needs) := by
  have hsuperseded : Canonical (match s.tripOfKey key with
      | some x => s.supersede x
      | none => s) := by
    split
    · exact h.supersede _
    · exact h
  exact Canonical.setTerminal (Canonical.setGroup (hsuperseded.makeRoom.of_parts (by rfl)) _ _) _ _

theorem Canonical.carryOn (h : Canonical s) (u : Nat) (x : Trip) (g : Nat) (needs : Bool) :
    Canonical (s.carryOn u x g needs) :=
  Canonical.setTerminal (Canonical.setGroup (h.of_parts (by rfl)) _ _) _ _

theorem Canonical.applyEnding (h : Canonical s) (u : Nat) (d : Decision) :
    Canonical (s.applyEnding u d) := by
  unfold State.applyEnding
  split
  · exact ((h.raise _).ite h).deny u _ _
  · exact h.placeAnswer _
  · exact h.placeAnswer _
  · exact h.createTrip _ _ _ _ _ _
  · exact h.carryOn _ _ _ _

theorem Canonical.queueReport (h : Canonical s) (r : Report) : Canonical (s.queueReport r) := by
  rcases s.queueReport_cases r with ⟨-, e⟩ | ⟨-, -, e⟩ | ⟨-, -, e⟩ <;> rw [e]
  · exact h
  · exact h.of_parts rfl
  · exact h.raise _

theorem Canonical.admission (h : Canonical s) (p : Presentation) : Canonical (s.admission p) :=
  (h.applyEnding _ _).queueReport _

end

end Sys2Proof.Safety
end

section
/-! SUPPORT. The commands of the ports, of the Call Exchange, of the alarm lines and of start-up, and the steps of a save, keep the canonical form of the tables (assumption log 23). -/

namespace Sys2Proof.Safety

open Sys2Proof.Machine

/-! ## The Terminal Port and the Denial Monitor (04) -/

section
variable {s : State}

theorem Canonical.miss (h : Canonical s) (x : Exchange) : Canonical (s.miss x) := by
  have hmissed := h.setTerminal x.station
  exact h.ite (Canonical.ite (hmissed _) (Canonical.ite ((hmissed _).raise _) (hmissed _)))

theorem Canonical.goodReply (h : Canonical s) (x : Exchange) : Canonical (s.goodReply x) := by
  have hheard := h.setTerminal x.station
  exact h.ite (Canonical.ite ((hheard _).raise _) (hheard _))

theorem Canonical.endedExchange (h : Canonical s) : Canonical s.endExchange :=
  h.of_parts rfl

theorem Canonical.offerToNetwork (h : Canonical s) (kind : Nat) (frame : List Byte) :
    Canonical (s.offerToNetwork kind frame) :=
  Canonical.ite (Canonical.ite (h.of_parts (by rfl)) (h.raise _)) h

theorem Canonical.takePresent (h : Canonical s) (u : Nat) (payload : List Byte) :
    Canonical (s.takePresent u payload) :=
  (h.setTerminal _ _).ite (h.admission _)

theorem Canonical.execReplyTimeExpiry (h : Canonical s) :
    Leaves Canonical (execReplyTimeExpiry s) := by
  refine leaves_next ?_
  split
  · exact h
  · exact h.ite (Canonical.miss (h.of_parts (by rfl)) _)

theorem Canonical.execPollReply (h : Canonical s) (r : Reception) :
    Leaves Canonical (execPollReply r s) := by
  refine leaves_next ?_
  split
  · exact h
  · next x f _ =>
    have hheard := h.endedExchange.goodReply x
    exact h.ite (hheard.ite (hheard.offerToNetwork _ _))

theorem Canonical.execPresentReply (h : Canonical s) (r : Reception) :
    Leaves Canonical (execPresentReply r s) := by
  refine leaves_next ?_
  split
  · exact h
  · next x f _ =>
    have hheard := h.endedExchange.goodReply x
    exact h.ite (hheard.ite (hheard.takePresent _ _))

theorem Canonical.execDecayExpiry (h : Canonical s) (u : Nat) :
    Leaves Canonical (execDecayExpiry u s) := by
  refine leaves_next ?_
  split
  · exact h
  · exact Canonical.ite (Canonical.setTerminal (h.of_parts (by rfl)) _ _) h

theorem Canonical.execHoldExpiry (h : Canonical s) (u : Nat) :
    Leaves Canonical (execHoldExpiry u s) := by
  refine leaves_next ?_
  split
  · exact Canonical.ite (Canonical.setTerminal (h.of_parts (by rfl)) _ _) h
  all_goals exact h

theorem Canonical.execSendAnswer (h : Canonical s) : Leaves Canonical (execSendAnswer s) := by
  refine leaves_next ?_
  split
  · exact h
  · next a rest _ =>
    have htaken : Canonical (({ s with answers := rest } : State).setTerminal a.terminal
        { s.terminal a.terminal with overrun := false }) := (h.of_parts (by rfl)).setTerminal _ _
    exact Canonical.ite (Canonical.ite (htaken.of_parts (by rfl)) htaken) h

/-! ## The G-port (09) -/

theorem Canonical.endOnT (h : Canonical s) (r : Reception) : Canonical (s.endOnT r) := by
  have hidle : Canonical { s with tReceiver := .idle } := h.of_parts rfl
  have houtside := (hidle.raise .linkErrors).ite hidle (c := (judge r).isNone = true)
  unfold State.endOnT
  dsimp only
  split
  · exact houtside
  · exact houtside.ite (h.ite ((h.endedExchange.raise _).miss _))

theorem Canonical.endOnG (h : Canonical s) (r : Reception) : Canonical (s.endOnG r) := by
  have hidle : Canonical { s with gReceiver := .idle } := h.of_parts rfl
  unfold State.endOnG
  split
  · exact hidle.raise _
  · split
    · exact hidle
    · exact h.handOn _
    all_goals exact h

theorem Canonical.execReceptionEnd (h : Canonical s) (port : Port) (r : Reception) :
    Leaves Canonical (execReceptionEnd port r s) := by
  refine leaves_next ?_
  cases port with
  | terminal => exact (h.endOnT r).ite h
  | group => exact (h.endOnG r).ite h

theorem Canonical.execReceiveMreq (h : Canonical s) (r : Reception) :
    Leaves Canonical (execReceiveMreq r s) := by
  refine leaves_next ?_
  split
  · exact h
  · next f _ =>
    have hhanded := h.handOn f
    exact Canonical.ite (hhanded.of_parts (by rfl)) (hhanded.raise _)

theorem Canonical.execReceiveGToTRelay (h : Canonical s) (r : Reception) :
    Leaves Canonical (execReceiveGToTRelay r s) := by
  refine leaves_next ?_
  split
  · exact h
  · next f _ =>
    have hhanded := h.handOn f
    exact Canonical.ite (Canonical.ite (hhanded.of_parts (by rfl)) (hhanded.raise _)) hhanded

theorem Canonical.execSendCall (h : Canonical s) : Leaves Canonical (execSendCall s) := by
  refine leaves_next ?_
  split
  · split
    · exact h
    · next g _ _ c rest _ =>
      have hmoved := h.setGroup g { s.group g with
        queue := rest
        outstanding := (s.group g).outstanding ++ [⟨c, s.now + (s.groupConfig g).timeout * 250⟩] }
      dsimp only
      split <;> exact hmoved.of_parts (by rfl)
  · exact h

/-! ## The Call Exchange (07) -/

theorem Canonical.execReceiveDecline (h : Canonical s) (r : Reception) :
    Leaves Canonical (execReceiveDecline r s) := by
  refine leaves_next ?_
  split
  · exact h
  · next f _ =>
    have hhanded := h.handOn f
    dsimp only
    split
    · exact hhanded
    · refine hhanded.ite ?_
      unfold State.takeDecline
      split
      · exact hhanded
      · exact (hhanded.setGroup _ _).failTrip _ _

theorem Canonical.raiseStreak (h : Canonical s) (g : Nat) : Canonical (s.raiseStreak g) :=
  (((h.setGroup g _).raise _).withdrawQueue g).ite (h.setGroup g _)

theorem Canonical.execAnswerTimeout (h : Canonical s) (g tag : Nat) :
    Leaves Canonical (execAnswerTimeout g tag s) := by
  refine leaves_next ?_
  split
  · exact h
  · next o _ =>
    have hreached : Canonical (s.reach o.deadline) := h.of_parts rfl
    exact ((((hreached.setGroup _ _).placeCancel _).failTrip _ _).raiseStreak g).ite h

theorem Canonical.expireTrip (h : Canonical s) (n : Nat) (st : TripState) :
    Canonical (s.expireTrip n st) := by
  unfold State.expireTrip
  split
  · exact h
  · split
    · exact h
    · exact Canonical.ite (h.of_parts (by rfl)) h

theorem Canonical.holdGroup (h : Canonical s) (g : Nat) : Canonical (s.holdGroup g) :=
  h.ite ((h.setGroup g _).withdrawQueue g)

theorem Canonical.resumeGroup (h : Canonical s) (g : Nat) : Canonical (s.resumeGroup g) :=
  h.ite (h.setGroup g _)

/-! ## The alarm lines (08) -/

theorem Canonical.execAlarmInputChange (h : Canonical s) (k : Nat) (v : Level) :
    Leaves Canonical (execAlarmInputChange k v s) :=
  leaves_next (h.ite (((h.setInput k v).watchInput k v).ite (h.setInput k v)))

theorem Canonical.execDebounceExpiry (h : Canonical s) (k : Nat) :
    Leaves Canonical (execDebounceExpiry k s) := by
  refine leaves_next ?_
  split
  · exact h
  · exact Canonical.ite (Canonical.acceptLevel (h.of_parts (by rfl)) _ _) h

/-! ## The tables in RAM (01 to 04, 08) -/

/-- Other tables may take the place of the tables in RAM. -/
theorem Canonical.tables (h : Canonical s) {tables : Tables} (htables : TablesCanonical tables) :
    Canonical { s with tables := tables } := by
  obtain ⟨⟨-, hstored⟩, hrest⟩ := h
  exact ⟨⟨htables, hstored⟩, hrest⟩

theorem Canonical.setWay (h : Canonical s) (w : Nat) (e : Option BadgeEntry) :
    Canonical (s.setWay w e) := by
  obtain ⟨hbankA, hbankB, hcredentials, hrest⟩ := h.1.1
  exact h.tables ⟨hbankA, hbankB, Store.wf_set _ _ _ _ hcredentials, hrest⟩

theorem Canonical.setTerminalConfig (h : Canonical s) (u : Nat) (c : TerminalConfig) :
    Canonical (s.setTerminalConfig u c) := by
  obtain ⟨hbankA, hbankB, hcredentials, hterminals, hrest⟩ := h.1.1
  exact h.tables ⟨hbankA, hbankB, hcredentials, Store.wf_set _ _ _ _ hterminals, hrest⟩

theorem Canonical.setGroupConfig (h : Canonical s) (g : Nat) (c : GroupConfig) :
    Canonical (s.setGroupConfig g c) := by
  obtain ⟨hbankA, hbankB, hcredentials, hterminals, hgroups, hrest⟩ := h.1.1
  exact h.tables ⟨hbankA, hbankB, hcredentials, hterminals, Store.wf_set _ _ _ _ hgroups, hrest⟩

theorem Canonical.setSkyLobby (h : Canonical s) (i : Nat) (v : Option Nat) :
    Canonical (s.setSkyLobby i v) := by
  obtain ⟨hbankA, hbankB, hcredentials, hterminals, hgroups, hlobbies, hrest⟩ := h.1.1
  exact h.tables ⟨hbankA, hbankB, hcredentials, hterminals, hgroups,
    Store.wf_set _ _ _ _ hlobbies, hrest⟩

theorem Canonical.setFormat (h : Canonical s) (i : Nat) (f : Format) :
    Canonical (s.setFormat i f) := by
  obtain ⟨hbankA, hbankB, hcredentials, hterminals, hgroups, hlobbies, hformats, hrest⟩ := h.1.1
  exact h.tables ⟨hbankA, hbankB, hcredentials, hterminals, hgroups, hlobbies,
    Store.wf_set _ _ _ _ hformats, hrest⟩

theorem Canonical.setFacility (h : Canonical s) (i : Nat) (v : Option FacilityRange) :
    Canonical (s.setFacility i v) := by
  obtain ⟨hbankA, hbankB, hcredentials, hterminals, hgroups, hlobbies, hformats, hfacilities,
    hlines⟩ := h.1.1
  exact h.tables ⟨hbankA, hbankB, hcredentials, hterminals, hgroups, hlobbies, hformats,
    Store.wf_set _ _ _ _ hfacilities, hlines⟩

theorem Canonical.setLineConfig (h : Canonical s) (k : Nat) (c : LineConfig) :
    Canonical (s.setLineConfig k c) := by
  obtain ⟨hbankA, hbankB, hcredentials, hterminals, hgroups, hlobbies, hformats, hfacilities,
    hlines⟩ := h.1.1
  exact h.tables ⟨hbankA, hbankB, hcredentials, hterminals, hgroups, hlobbies, hformats,
    hfacilities, Store.wf_set _ _ _ _ hlines⟩

/-! ### The policy banks (R38, R39) -/

theorem Canonical.bank (h : Canonical s) (name : BankName) : BankCanonical (s.bank name) := by
  obtain ⟨hbankA, hbankB, -⟩ := h.1.1
  cases name
  · exact hbankA
  · exact hbankB

theorem Canonical.setStandby (h : Canonical s) {b : PolicyBank} (hb : BankCanonical b) :
    Canonical (s.setStandby b) := by
  obtain ⟨hbankA, hbankB, hrest⟩ := h.1.1
  unfold State.setStandby
  split
  · exact h.tables ⟨hbankA, hb, hrest⟩
  · exact h.tables ⟨hb, hbankB, hrest⟩

theorem Canonical.setBand (h : Canonical s) (i : Nat) (v : Option Band) :
    Canonical (s.setBand i v) := by
  obtain ⟨hprofiles, hrest⟩ := h.bank s.activeBank.other
  exact h.setStandby ⟨Store.wf_set _ _ _ _ hprofiles, hrest⟩

theorem Canonical.setTenant (h : Canonical s) (i : Nat) (v : Tenant) :
    Canonical (s.setTenant i v) := by
  obtain ⟨hprofiles, htenants, hrest⟩ := h.bank s.activeBank.other
  exact h.setStandby ⟨hprofiles, Store.wf_set _ _ _ _ htenants, hrest⟩

theorem Canonical.setHoliday (h : Canonical s) (i : Nat) (v : Option Nat) :
    Canonical (s.setHoliday i v) := by
  obtain ⟨hprofiles, htenants, hholidays, hlandings⟩ := h.bank s.activeBank.other
  exact h.setStandby ⟨hprofiles, htenants, Store.wf_set _ _ _ _ hholidays, hlandings⟩

theorem Canonical.setLanding (h : Canonical s) (i : Nat) (v : Landing) :
    Canonical (s.setLanding i v) := by
  obtain ⟨hprofiles, htenants, hholidays, hlandings⟩ := h.bank s.activeBank.other
  exact h.setStandby ⟨hprofiles, htenants, hholidays, Store.wf_set _ _ _ _ hlandings⟩

/-! ### Records that more than one operation writes (R25, R26, R29, R60, R61, R145, R151) -/

theorem Canonical.putEntry (h : Canonical s) (w : Nat) (e : BadgeEntry) :
    Canonical (s.putEntry w e) :=
  (h.setWay w (some e)).ite ((h.setWay w (some e)).of_parts (by rfl))

theorem Canonical.placeEntry (h : Canonical s) (e : BadgeEntry) :
    Canonical (s.placeEntry e).state := by
  unfold State.placeEntry
  split
  · exact Canonical.putEntry (h.of_parts (by rfl)) _ _
  · split
    · exact Canonical.putEntry (h.of_parts (by rfl)) _ _
    · exact h

theorem Canonical.eraseKey (h : Canonical s) (k : BadgeKey) : Canonical (s.eraseKey k).state := by
  unfold State.eraseKey
  split
  · exact h
  · exact (h.setWay _ _).of_parts (by rfl)

theorem Canonical.configureTerminal (h : Canonical s) (u : Nat) (c : TerminalConfig) :
    Canonical (s.configureTerminal u c) :=
  (h.setTerminalConfig u c).ite ((h.setTerminalConfig u c).setTerminal u _)

theorem Canonical.eraseTerminal (h : Canonical s) (u : Nat) : Canonical (s.eraseTerminal u) := by
  have herased := (h.setTerminalConfig u {}).setTerminal u {}
  exact Canonical.ite (herased.of_parts (by rfl)) h

theorem Canonical.applyTrigger (h : Canonical s) (k : Nat) (edge : Bool) :
    Canonical (s.applyTrigger k edge) := by
  have hstored := h.setLineConfig k { s.lineConfig k with edge := edge }
  have hmoved := hstored.setLine k
  exact h.ite (Canonical.ite (Canonical.ite (hmoved _) hstored)
    (Canonical.ite (Canonical.ite ((hmoved _).raiseLine _ _) (hmoved _))
      (Canonical.ite (hmoved _) ((hmoved _).raiseLine _ _))))

theorem Canonical.applyLine (h : Canonical s) (k : Nat) (c : LineConfig) :
    Canonical (s.applyLine k c) :=
  ((((h.setLineConfig k _).applyTrigger k _).setLineConfig k _).followActive k _).formMode

/-! ## Assignment (R32, R133) -/

theorem Canonical.countDown (h : Canonical s) (k : BadgeKey) : Canonical (s.countDown k) := by
  unfold State.countDown
  split
  · exact h
  · split
    · exact h
    · exact (h.setWay _ _).ite h

theorem Canonical.assignTrip (h : Canonical s) (x : Trip) (car : Nat) :
    Canonical (s.assignTrip x car) := by
  unfold State.assignTrip
  dsimp only
  generalize hadvance : s.updateTrip x.number _ = u
  have hadvanced : Canonical u := hadvance ▸ h.of_parts rfl
  have hanswered := ((hadvanced.countDown x.key).ite hadvanced (c := x.leg = 1)).endAwait x
  exact Canonical.ite ((hanswered _).of_parts (by rfl)) (hanswered _)

theorem Canonical.assignCall (h : Canonical s) (g : Nat) (o : Outstanding) (car : Nat) :
    Canonical (s.assignCall g o car) := by
  have hremoved : Canonical (s.removeOutstanding g o.call.tag) := h.setGroup g _
  unfold State.assignCall
  dsimp only
  split
  · exact hremoved.setGroup g _
  · exact (hremoved.assignTrip _ car).setGroup g _

theorem Canonical.takeAssign (h : Canonical s) (g tag car : Nat) :
    Canonical (s.takeAssign g tag car) := by
  refine h.ite ?_
  split
  · exact h.assignCall g _ car
  · exact h.ite (h.placeCancel _)

theorem Canonical.execReceiveAssign (h : Canonical s) (r : Reception) :
    Leaves Canonical (execReceiveAssign r s) := by
  refine leaves_next ?_
  split
  · exact h
  · next f _ =>
    have hhanded := h.handOn f
    dsimp only
    split
    · exact hhanded
    · exact hhanded.ite (hhanded.takeAssign _ _ _)

/-! ## Resets, LOADING and the steps of a save (R188 to R190, R192) -/

theorem tablesCanonical_empty : TablesCanonical {} :=
  ⟨bankCanonical_empty, bankCanonical_empty, rfl, rfl, rfl, rfl, rfl, rfl, rfl⟩

theorem Canonical.withoutSave (h : Canonical s) : Canonical { s with saving := none, image := none } := by
  obtain ⟨⟨htables, -⟩, hrest⟩ := h
  exact ⟨⟨htables, nofun, nofun⟩, hrest⟩

theorem Canonical.endSave (h : Canonical s) : Canonical s.endSave := by
  unfold State.endSave
  split
  · exact h
  · exact h.withoutSave

/-- A reset empties the stores of the dynamic state, the raw inputs apart. -/
theorem Canonical.resetValues (h : Canonical s) : Canonical s.resetValues := by
  have hended := h.endSave
  exact ⟨hended.1, rfl, rfl, hended.2.2.2.1, rfl, rfl⟩

/-- The tables loaded are those of the image, or empty. -/
theorem Canonical.loadTables (h : Canonical s) : Canonical s.loadTables := by
  unfold State.loadTables
  split
  · next i hi => exact (h.tables (h.1.2.1 i hi)).of_parts rfl
  · exact (h.tables tablesCanonical_empty).of_parts rfl

theorem Canonical.execLoadingEnd (h : Canonical s) : Leaves Canonical (execLoadingEnd s) :=
  leaves_next ((Canonical.foldl_startDebounce
    (h.loadTables.ite (h.loadTables.raise .clockUnset)) lineNumbers).ite h)

/-- A snapshot is as canonical as the tables that it captures. -/
theorem Canonical.beginSave (h : Canonical s) :
    Canonical { s with saving := some ⟨.clearMark, s.snapshot⟩ } := by
  have hactive := h.bank s.activeBank
  have hstandby := h.bank s.activeBank.other
  obtain ⟨⟨htables, himage, -⟩, hrest⟩ := h
  refine ⟨⟨htables, himage, ?_⟩, hrest⟩
  rintro _ ⟨⟩
  exact ⟨hactive, hstandby, htables.2.2⟩

theorem Canonical.failSave (h : Canonical s) : Canonical s.failSave :=
  h.withoutSave.raise _

/-- A step ends: the save goes on when it was verified, and fails otherwise. -/
theorem Canonical.stepEnds (h : Canonical s) {st : SaveStep} {j : SaveJob}
    (hj : s.savingAt st = some j) (verified : Bool) (step : SaveStep) {image : Option Image}
    (himage : image = s.image ∨ image = none) :
    Canonical (if verified then
      { s with image := image, saving := some { j with step := step } } else s.failSave) := by
  refine Canonical.ite ?_ h.failSave
  obtain ⟨⟨htables, hstored, hsnapshot⟩, hrest⟩ := h
  refine ⟨⟨htables, fun i hi => ?_, ?_⟩, hrest⟩
  · rcases himage with rfl | rfl
    · exact hstored i hi
    · exact nomatch hi
  · rintro _ ⟨⟩
    exact hsnapshot j (savingAt_eq_some hj)

theorem Canonical.execSaveMarkCleared (h : Canonical s) (verified : Bool) :
    Leaves Canonical (execSaveMarkCleared verified s) := by
  refine leaves_next ?_
  split
  · exact h
  · next hj => exact h.stepEnds hj verified .eraseSectors (.inr rfl)

theorem Canonical.execSaveSectorsErased (h : Canonical s) (verified : Bool) :
    Leaves Canonical (execSaveSectorsErased verified s) := by
  refine leaves_next ?_
  split
  · exact h
  · next hj => exact h.stepEnds hj verified .programTables (.inl rfl)

theorem Canonical.execSaveTablesProgrammed (h : Canonical s) (verified : Bool) :
    Leaves Canonical (execSaveTablesProgrammed verified s) := by
  refine leaves_next ?_
  split
  · exact h
  · next hj => exact h.stepEnds hj verified .writeMark (.inl rfl)

/-- The image becomes the snapshot. -/
theorem Canonical.execSaveMarkWritten (h : Canonical s) (verified : Bool) :
    Leaves Canonical (execSaveMarkWritten verified s) := by
  refine leaves_next ?_
  split
  · exact h
  · next j hj =>
    refine Canonical.ite (Canonical.raise ?_ _) h.failSave
    obtain ⟨⟨htables, -, hsnapshot⟩, hrest⟩ := h
    refine ⟨⟨htables, ?_, nofun⟩, hrest⟩
    rintro _ ⟨⟩
    exact hsnapshot j (savingAt_eq_some hj)

end

end Sys2Proof.Safety
end

section
/-! SUPPORT. The management requests keep the canonical form of the tables, and the proof of O56 (assumption log 23). -/

namespace Sys2Proof.Safety

open Sys2Proof.Machine

section
variable {s : State}

/-! ## Requests (10) -/

/-- Serving keeps the tables canonical when the handling does. -/
theorem Canonical.serve (h : Canonical s) {mine : List Byte → Bool}
    {handle : List Byte → State → Reply}
    (hhandle : ∀ p u, Canonical u → Canonical (handle p u).state) :
    Leaves Canonical (.next (s.serve mine handle)) :=
  leaves_next (serve_keeps (fun _ _ hu => hu.of_parts rfl) (fun _ _ _ _ hu => hu.of_parts rfl)
    hhandle h)

variable {p : List Byte} {need : Nat} {k : Reply}

theorem Canonical.checkChange (h : Canonical s) (hk : Canonical k.state) :
    Canonical (s.checkChange p need k).state :=
  checkChange_keeps h (h.raise _) hk

theorem Canonical.checkCommand (h : Canonical s) (hk : Canonical k.state) :
    Canonical (s.checkCommand p need k).state :=
  checkCommand_keeps h (h.raise _) hk

theorem handleRead_canonical (p : List Byte) (u : State) (h : Canonical u) :
    Canonical (handleRead p u).state := by
  have hpolicy : ∀ size record, Canonical (u.readPolicy p size record).state := by
    intro size record
    refine checkIndex_keeps h ?_
    split <;> exact h
  have hway : Canonical (u.readWay p).state := by
    refine checkIndex_keeps h ?_
    split
    · exact h
    · exact h.of_parts rfl
  refine checkLength_keeps h ?_
  split
  case h_1 => exact hway
  case h_2 | h_3 | h_4 | h_5 => exact hpolicy _ _
  case h_14 | h_15 => exact h
  all_goals exact checkIndex_keeps h h

theorem handleFind_canonical (p : List Byte) (u : State) (h : Canonical u) :
    Canonical (handleFind p u).state := by
  refine checkLength_keeps h ?_
  split
  · exact h
  · split
    · exact h
    · exact h.of_parts rfl

theorem handleUndefined_canonical (p : List Byte) (u : State) (h : Canonical u) :
    Canonical (handleUndefined p u).state :=
  ite_keeps h (checkLength_keeps h
    (ite_keeps (checkCode_keeps (h.raise _) (checkSaving_keeps h h)) h))

theorem Canonical.setSettings (h : Canonical s) (c : Settings) : Canonical (s.setSettings c) :=
  h.tables h.1.1

theorem handleWriteSettings_canonical (p : List Byte) (u : State) (h : Canonical u) :
    Canonical (handleWriteSettings p u).state := by
  refine h.checkChange (checkIndex_keeps h ?_)
  split
  · exact h
  · exact h.setSettings _

/-! ## Every step -/

/-- Every command keeps the tables canonical. -/
theorem Canonical.exec (h : Canonical s) (c : Instr) : Leaves Canonical (exec c s) := by
  cases c with
  -- commands whose every branch leaves the stores
  | clockAdvance | sendPoll | sendGToTRelay | receiverIdle port | receptionStart port
  | sendCancel | sendMrsp | sendNotice | sendTToGRelay | sendReport =>
    refine leaves_next (h.of_parts ?_)
    repeat' split
    all_goals rfl
  -- resets and LOADING
  | fullReset => exact leaves_next (h.endSave.of_parts (by rfl))
  | fullResetEnd => exact leaves_next (Canonical.ite (h.resetValues.of_parts (by rfl)) h)
  | restartMade => exact leaves_next (h.resetValues.ite h)
  | loadingEnd => exact h.execLoadingEnd
  -- the Terminal Port
  | replyTimeExpiry => exact h.execReplyTimeExpiry
  | pollReply r => exact h.execPollReply r
  | presentReply r => exact h.execPresentReply r
  | decayExpiry u => exact h.execDecayExpiry u
  | holdExpiry u => exact h.execHoldExpiry u
  | sendAnswer => exact h.execSendAnswer
  | receptionEnd port r => exact h.execReceptionEnd port r
  -- the G-port and the Call Exchange
  | receiveMreq r => exact h.execReceiveMreq r
  | receiveGToTRelay r => exact h.execReceiveGToTRelay r
  | receiveAssign r => exact h.execReceiveAssign r
  | receiveDecline r => exact h.execReceiveDecline r
  | answerTimeout g tag => exact h.execAnswerTimeout g tag
  | repeatGuardExpiry n | transferWindowExpiry n => exact leaves_next (h.expireTrip n _)
  | sendCall => exact h.execSendCall
  -- the alarm lines
  | alarmInputChange i v => exact h.execAlarmInputChange i v
  | debounceExpiry i => exact h.execDebounceExpiry i
  -- a save
  | saveMarkCleared verified => exact h.execSaveMarkCleared verified
  | saveSectorsErased verified => exact h.execSaveSectorsErased verified
  | saveTablesProgrammed verified => exact h.execSaveTablesProgrammed verified
  | saveMarkWritten verified => exact h.execSaveMarkWritten verified
  -- reading requests
  | read => exact h.serve handleRead_canonical
  | find => exact h.serve handleFind_canonical
  | readStatus => exact h.serve fun _ _ hu => checkLength_keeps hu hu
  | undefinedOperation => exact h.serve handleUndefined_canonical
  -- WRITE and ERASE of the Credential Table
  | writeCredential =>
    exact h.serve fun _ _ hu => hu.checkChange (checkField_keeps hu (hu.placeEntry _))
  | eraseCredential => exact h.serve fun _ _ hu => hu.checkChange (hu.eraseKey _)
  -- WRITE and ERASE of the policy tables
  | writeProfile =>
    exact h.serve fun _ _ hu => hu.checkChange (checkIndex_keeps hu
      (checkField_keeps hu (hu.setBand _ _)))
  | eraseProfile =>
    exact h.serve fun _ _ hu => hu.checkChange (checkIndex_keeps hu (hu.setBand _ _))
  | writeTenant =>
    exact h.serve fun _ _ hu => hu.checkChange (checkIndex_keeps hu
      (checkField_keeps hu (hu.setTenant _ _)))
  | eraseTenant =>
    exact h.serve fun _ _ hu => hu.checkChange (checkIndex_keeps hu (hu.setTenant _ _))
  | writeHoliday | eraseHoliday =>
    exact h.serve fun _ _ hu => hu.checkChange (checkIndex_keeps hu (hu.setHoliday _ _))
  | writeLanding =>
    exact h.serve fun _ _ hu => hu.checkChange (checkIndex_keeps hu
      (checkField_keeps hu (hu.setLanding _ _)))
  | eraseLanding =>
    exact h.serve fun _ _ hu => hu.checkChange (checkIndex_keeps hu (hu.setLanding _ _))
  -- WRITE and ERASE of the other tables
  | writeGroup =>
    exact h.serve fun _ _ hu => hu.checkChange (checkIndex_keeps hu
      (checkField_keeps hu (hu.setGroupConfig _ _)))
  | eraseGroup =>
    exact h.serve fun _ _ hu => hu.checkChange (checkIndex_keeps hu
      (ite_keeps hu ((hu.setGroupConfig _ _).setGroup _ _)))
  | writeSkyLobby =>
    exact h.serve fun _ _ hu => hu.checkChange (checkIndex_keeps hu
      (checkField_keeps hu (hu.setSkyLobby _ _)))
  | eraseSkyLobby =>
    exact h.serve fun _ _ hu => hu.checkChange (checkIndex_keeps hu (hu.setSkyLobby _ _))
  | writeTerminal =>
    exact h.serve fun _ _ hu => hu.checkChange (checkIndex_keeps hu
      (checkField_keeps hu (hu.configureTerminal _ _)))
  | eraseTerminal =>
    exact h.serve fun _ _ hu => hu.checkChange (checkIndex_keeps hu
      (ite_keeps hu (hu.eraseTerminal _)))
  | writeFormat =>
    exact h.serve fun _ _ hu => hu.checkChange (checkIndex_keeps hu
      (checkField_keeps hu (hu.setFormat _ _)))
  | eraseFormat =>
    exact h.serve fun _ _ hu => hu.checkChange (checkIndex_keeps hu (hu.setFormat _ _))
  | writeFacilityRange =>
    exact h.serve fun _ _ hu => hu.checkChange (checkIndex_keeps hu
      (checkField_keeps hu (hu.setFacility _ _)))
  | eraseFacilityRange =>
    exact h.serve fun _ _ hu => hu.checkChange (checkIndex_keeps hu (hu.setFacility _ _))
  | writeAlarmLine =>
    exact h.serve fun _ _ hu => hu.checkChange (checkIndex_keeps hu
      (checkField_keeps hu (hu.applyLine _ _)))
  | eraseAlarmLine =>
    exact h.serve fun _ _ hu => hu.checkChange (checkIndex_keeps hu (hu.applyLine _ _))
  | writeSettings => exact h.serve handleWriteSettings_canonical
  -- the other commands of the head-end
  | switchBanks => exact h.serve fun _ _ hu => hu.checkChange (hu.of_parts (by rfl))
  | copyActiveToStandby =>
    exact h.serve fun _ u hu => hu.checkChange (hu.setStandby (hu.bank u.activeBank))
  | saveImage => exact h.serve fun _ _ hu => hu.checkChange hu.beginSave
  | restart | lockZones | unlockZones =>
    exact h.serve fun _ _ hu => hu.checkCommand (hu.of_parts (by rfl))
  | startService =>
    exact h.serve fun _ _ hu => hu.checkCommand (ite_keeps (hu.of_parts (by rfl)) hu)
  | setTime =>
    exact h.serve fun _ _ hu => hu.checkCommand (checkField_keeps hu (hu.of_parts (by rfl)))
  | setSiteCode =>
    exact h.serve fun _ _ hu => hu.checkCommand (ite_keeps hu (hu.of_parts (by rfl)))
  | releaseTerminal =>
    exact h.serve fun _ _ hu => hu.checkCommand (checkIndex_keeps hu (hu.setTerminal _ _))
  | ackLine =>
    exact h.serve fun _ _ hu => hu.checkCommand (checkIndex_keeps hu
      (ite_keeps (ite_keeps hu (hu.unlatch _)) hu))
  | holdGroup =>
    exact h.serve fun _ _ hu => hu.checkCommand (checkIndex_keeps hu (hu.holdGroup _))
  | resumeGroup =>
    exact h.serve fun _ _ hu => hu.checkCommand (checkIndex_keeps hu (hu.resumeGroup _))
  | enterRecall | leaveRecall =>
    exact h.serve fun _ _ hu => hu.checkCommand (Canonical.formMode (hu.of_parts (by rfl)))
  | clearEvents =>
    exact h.serve fun _ _ hu => hu.checkCommand (checkField_keeps hu (hu.clearKinds _))

end

/-- Settles O56: a record is written by `Store.set`, or to every listed record by `Store.mapValues`, which keep the
canonical form; saves, resets and LOADING move tables that are canonical already. -/
theorem tablesStayCanonical : Obligations.TablesStayCanonical :=
  kept_of_exec (fun _ h => h.ite (h.of_parts (by rfl))) (fun _ _ h => h.of_parts rfl)
    fun _ c h => h.exec c

end Sys2Proof.Safety
end

section
/-! SUPPORT. The resets and the steps of a save, in the statements' terms, and the proofs of O3 and O36 (R48, R178, R188 to R190, R192, R194). -/

namespace Sys2Proof.Safety

open Sys2Proof.Machine

section
variable (s : State)

/-! ## The resets (R189, R192) -/

/-- With a save in progress the image is INVALID. -/
theorem endSave_eq : s.endSave = { s with
    saving := none, image := if s.saving = none then s.image else none } := by
  unfold State.endSave
  split
  · next h =>
    rw [if_pos h, ← h]
  · next h =>
    rw [if_neg (by simp [h])]

theorem atReset_eq (c : SiteCode) :
    c.atReset = ⟨c.code, if c.state = .blank then .blank else .locked⟩ := by
  obtain ⟨code, state⟩ := c
  cases state <;> rfl

/-- What every reset leaves as it was, and that the rest has its reset value. -/
theorem resetValues_eq : s.resetValues = { State.reset with
    tables := s.tables, population := s.population, inputs := s.inputs
    siteCode := ⟨s.siteCode.code, if s.siteCode.state = .blank then .blank else .locked⟩
    image := if s.saving = none then s.image else none
    imageSequence := s.imageSequence, freeCount := s.freeCount, pending := s.pending
    resetHeld := s.resetHeld, clock := s.clock, now := s.now, nextSecond := s.nextSecond } := by
  rw [State.resetValues, endSave_eq, atReset_eq]
  rfl

end

/-- Settles O3: the three commands end a save by `endSave_eq`, and the two that apply the reset values do so by
`resetValues_eq`. -/
theorem resetsGiveTheResetValues : Obligations.ResetsGiveTheResetValues := by
  intro s code image after
  refine ⟨?_, fun hheld => ?_, fun hheld hrestart => ?_⟩
  · change execFullReset s = _
    rw [execFullReset, endSave_eq]
  · change execFullResetEnd s = _
    rw [execFullResetEnd, if_pos hheld, resetValues_eq]
    rfl
  · change execRestartMade s = _
    rw [execRestartMade, if_pos (by simp [hheld, hrestart]), resetValues_eq, hheld]
    rfl

/-! ## The steps of a save (R188) -/

section
variable {s : State} {st : SaveStep} {tabs : Tables}

theorem savingAt_of_saving (h : s.saving = some ⟨st, tabs⟩) : s.savingAt st = some ⟨st, tabs⟩ := by
  simp [State.savingAt, h]

theorem exec_saveMarkCleared (h : s.saving = some ⟨.clearMark, tabs⟩) (verified : Bool) :
    exec (.saveMarkCleared verified) s = .next (if verified then
      { s with image := none, saving := some ⟨.eraseSectors, tabs⟩ } else s.failSave) := by
  change execSaveMarkCleared verified s = _
  rw [execSaveMarkCleared, savingAt_of_saving h]

theorem exec_saveSectorsErased (h : s.saving = some ⟨.eraseSectors, tabs⟩) (verified : Bool) :
    exec (.saveSectorsErased verified) s = .next (if verified then
      { s with saving := some ⟨.programTables, tabs⟩ } else s.failSave) := by
  change execSaveSectorsErased verified s = _
  rw [execSaveSectorsErased, savingAt_of_saving h]

theorem exec_saveTablesProgrammed (h : s.saving = some ⟨.programTables, tabs⟩) (verified : Bool) :
    exec (.saveTablesProgrammed verified) s = .next (if verified then
      { s with saving := some ⟨.writeMark, tabs⟩ } else s.failSave) := by
  change execSaveTablesProgrammed verified s = _
  rw [execSaveTablesProgrammed, savingAt_of_saving h]

theorem exec_saveMarkWritten (h : s.saving = some ⟨.writeMark, tabs⟩) (verified : Bool) :
    exec (.saveMarkWritten verified) s = .next (if verified then
      ({ s with
        image := some ⟨nextSequence s.imageSequence, tabs⟩
        imageSequence := nextSequence s.imageSequence, saving := none } : State).raise .saveDone
      else s.failSave) := by
  change execSaveMarkWritten verified s = _
  rw [execSaveMarkWritten, savingAt_of_saving h]

theorem failSave_eq (s : State) : Counted s s.failSave .saveFailed ∧ s.failSave = { s with
    saving := none, image := none, events := s.failSave.events, notices := s.failSave.notices } :=
  ⟨counted_raise { s with saving := none, image := none } .saveFailed, rfl⟩

/-- The sequence is of 16 bits, so that 65,535 is followed by 0. -/
theorem nextSequence_eq (n : Nat) :
    nextSequence n = if n % 65536 = 65535 then 0 else n % 65536 + 1 := by
  unfold nextSequence
  split_ifs <;> omega

end

/-- Settles O36: at its step a save goes on when the step was verified, and fails by `failSave_eq` otherwise. -/
theorem saveGoesThroughItsSteps : Obligations.SaveGoesThroughItsSteps := by
  intro s tabs failed sequence
  have hsequence : nextSequence s.imageSequence = sequence := nextSequence_eq _
  refine ⟨fun h => ?_, fun h => ?_, fun h => ?_, fun h => ?_⟩
  · exact ⟨exec_saveMarkCleared h true, _, exec_saveMarkCleared h false, failSave_eq s⟩
  · exact ⟨exec_saveSectorsErased h true, _, exec_saveSectorsErased h false, failSave_eq s⟩
  · exact ⟨exec_saveTablesProgrammed h true, _, exec_saveTablesProgrammed h false, failSave_eq s⟩
  · rw [← hsequence]
    exact ⟨⟨_, exec_saveMarkWritten h true, counted_raise { s with
        image := some ⟨nextSequence s.imageSequence, tabs⟩
        imageSequence := nextSequence s.imageSequence, saving := none } .saveDone, rfl⟩,
      _, exec_saveMarkWritten h false, failSave_eq s⟩

end Sys2Proof.Safety
end

section
/-! SUPPORT. The first debounce of the alarm lines as LOADING ends, line by line, with its events and the building mode that follows (R147 to R149, R152, R155, R156). -/

namespace Sys2Proof.Safety

open Sys2Proof.Machine

/-! ## One line starts (R147) -/

/-- What the start of a line with configuration `c` and raw level `v` makes of its state. -/
def startedLine (c : LineConfig) (l : LineState) (v : Level) (now : Nat) : LineState :=
  if c.debounce = 0 then
    { accepted := some v, timer := none
      status := followStatus c.edge (lineActive c l) (lineActive c { l with accepted := some v })
        l.status }
  else { l with timer := some (now + debounceTime c.debounce) }

/-- The state with all wiped out that the start of a line can touch. -/
def besideLines (s : State) : State :=
  { s with
    lines := [], mode := .normal, groups := [], cancels := [], trips := [], answers := []
    terminals := [], events := [], notices := [] }

section
variable (s : State) (k : Nat)

theorem besideLines_startDebounce : besideLines (s.startDebounce k) = besideLines s :=
  (congrArg besideLines (s.startDebounce_frame k)).trans rfl

variable {s k}

theorem startDebounce_of_zero (h : (s.lineConfig k).debounce = 0) :
    s.startDebounce k = s.acceptLevel k (s.input k) :=
  if_pos ((debounceTime_eq_zero _).2 h)

theorem startDebounce_of_ne_zero (h : (s.lineConfig k).debounce ≠ 0) :
    s.startDebounce k = s.setLine k { s.line k with
      timer := some (s.now + debounceTime (s.lineConfig k).debounce) } :=
  if_neg (mt (debounceTime_eq_zero _).1 h)

variable (s k)

theorem startDebounce_line (j : Nat) : (s.startDebounce k).line j =
    if j = k then startedLine (s.lineConfig k) (s.line k) (s.input k) s.now else s.line j := by
  unfold startedLine
  by_cases hcode : (s.lineConfig k).debounce = 0
  · obtain ⟨hother, hsame, -⟩ := levelAccepted_acceptLevel s k (s.input k)
    rw [startDebounce_of_zero hcode, if_pos hcode, followStatus_eq]
    by_cases hj : j = k
    · rw [if_pos hj, hj, hsame]
      rfl
    · rw [if_neg hj, hother j hj]
  · rw [startDebounce_of_ne_zero hcode, if_neg hcode]
    exact setLine_line s k j _

theorem raised_startDebounce : Raised s (s.startDebounce k)
    (statusEvents (s.lineConfig k).mask (s.line k).status ((s.startDebounce k).line k).status ++
      modeEvents s (s.startDebounce k)) := by
  by_cases hcode : (s.lineConfig k).debounce = 0
  · obtain ⟨-, -, hraised, -⟩ := levelAccepted_acceptLevel s k (s.input k)
    rw [startDebounce_of_zero hcode]
    exact hraised
  · have hstatus : ((s.startDebounce k).line k).status = (s.line k).status := by
      rw [startDebounce_line, if_pos rfl, startedLine, if_neg hcode]
    have hmode : (s.startDebounce k).mode = s.mode := by
      rw [startDebounce_of_ne_zero hcode]
      rfl
    rw [hstatus, statusEvents_staying Iff.rfl, modeEvents_of_eq hmode, startDebounce_of_ne_zero hcode]
    exact Raised.refl s

theorem workFollowsMode_startDebounce : WorkFollowsMode s (s.startDebounce k) := by
  by_cases hcode : (s.lineConfig k).debounce = 0
  · obtain ⟨-, -, -, hwork, -⟩ := levelAccepted_acceptLevel s k (s.input k)
    rw [startDebounce_of_zero hcode]
    exact hwork
  · rw [startDebounce_of_ne_zero hcode]
    exact ⟨fun _ => ⟨rfl, rfl, rfl, rfl, rfl⟩, fun hn hr => nomatch hn.symm.trans hr⟩

/-- A kind that is not among the occurrences stays as it was. -/
theorem Raised.event_of_not_mem {s t : State} {ks : List EventKind} (h : Raised s t ks)
    {e : EventKind} (he : e ∉ ks) : t.event e = s.event e := by
  induction ks generalizing s with
  | nil => exact h.1 e
  | cons k ks ih =>
    obtain ⟨u, -, ⟨-, hother, -⟩, hrest⟩ := h
    rw [List.mem_cons, not_or] at he
    exact (ih hrest he.2).trans (hother e he.1)

/-- The start of a line raises the events of its state and of the mode alone. -/
theorem startDebounce_event {e : EventKind}
    (he : e ∉ [EventKind.alarmRaised, .alarmCleared, .recallEntered, .recallLeft]) :
    (s.startDebounce k).event e = s.event e := by
  refine (raised_startDebounce s k).event_of_not_mem fun hmem => he ?_
  simp only [statusEvents, modeEvents, onlyIf, List.mem_append, List.mem_ite_nil_right,
    List.mem_singleton] at hmem
  simp only [List.mem_cons, List.not_mem_nil, or_false]
  tauto

end

/-! ## The lines start, one after another -/

/-- The state after the start of the listed lines. -/
def startLines (s : State) (ks : List Nat) : State := ks.foldl State.startDebounce s

section
variable (s : State)

theorem startLines_cons (k : Nat) (ks : List Nat) :
    startLines s (k :: ks) = startLines (s.startDebounce k) ks := rfl

theorem startLines_range_succ (n : Nat) :
    startLines s (List.range (n + 1)) = (startLines s (List.range n)).startDebounce n := by
  rw [startLines, List.range_succ, List.foldl_append]
  rfl

theorem besideLines_startLines (ks : List Nat) : besideLines (startLines s ks) = besideLines s := by
  induction ks generalizing s with
  | nil => rfl
  | cons k ks ih => exact (ih _).trans (besideLines_startDebounce s k)

theorem startLines_frame (ks : List Nat) : startLines s ks = { s with
    lines := (startLines s ks).lines, mode := (startLines s ks).mode
    groups := (startLines s ks).groups, cancels := (startLines s ks).cancels
    trips := (startLines s ks).trips, answers := (startLines s ks).answers
    terminals := (startLines s ks).terminals, events := (startLines s ks).events
    notices := (startLines s ks).notices } := by
  have hbeside := besideLines_startLines s ks
  generalize startLines s ks = t at hbeside
  exact congrArg (fun u : State => { u with
    lines := t.lines, mode := t.mode, groups := t.groups, cancels := t.cancels, trips := t.trips
    answers := t.answers, terminals := t.terminals, events := t.events
    notices := t.notices }) hbeside

theorem startLines_lineConfig (ks : List Nat) : (startLines s ks).lineConfig = s.lineConfig :=
  (congrArg State.lineConfig (besideLines_startLines s ks)).trans rfl

theorem startLines_line {ks : List Nat} (hks : ks.Nodup) (j : Nat) : (startLines s ks).line j =
    if j ∈ ks then startedLine (s.lineConfig j) (s.line j) (s.input j) s.now else s.line j := by
  induction ks generalizing s with
  | nil => rfl
  | cons k ks ih =>
    obtain ⟨hk, hks⟩ := List.nodup_cons.1 hks
    have hbeside := besideLines_startDebounce s k
    have hconfig : (s.startDebounce k).lineConfig = s.lineConfig :=
      (congrArg State.lineConfig hbeside).trans rfl
    have hinput : (s.startDebounce k).input = s.input := (congrArg State.input hbeside).trans rfl
    have hnow : (s.startDebounce k).now = s.now := (congrArg State.now hbeside).trans rfl
    rw [startLines_cons, ih _ hks, hconfig, hinput, hnow, startDebounce_line]
    by_cases hj : j = k
    · subst hj
      simp [hk]
    · simp [hj]

theorem startLines_event (ks : List Nat) {e : EventKind}
    (he : e ∉ [EventKind.alarmRaised, .alarmCleared, .recallEntered, .recallLeft]) :
    (startLines s ks).event e = s.event e := by
  induction ks generalizing s with
  | nil => rfl
  | cons k ks ih => exact (ih _).trans (startDebounce_event s k he)

/-- When every line has a debounce time the timers start, and that is all. -/
theorem startLines_of_ne_zero {ks : List Nat} (h : ∀ k ∈ ks, (s.lineConfig k).debounce ≠ 0) :
    startLines s ks = { s with lines := (startLines s ks).lines } := by
  induction ks generalizing s with
  | nil => rfl
  | cons k ks ih =>
    rw [startLines_cons, startDebounce_of_ne_zero (h k List.mem_cons_self)]
    exact ih _ fun j hj => h j (List.mem_cons_of_mem k hj)

end

/-! ## Lines that start from their reset values (R147 to R149, R155) -/

/-- A line with debounce code 0 that starts at its active level. -/
abbrev Sounds (c : LineConfig) (v : Level) : Prop :=
  c.debounce = 0 ∧ v = if c.activeLow then .low else .high

/-- A line that calls for RECALL as it starts. -/
abbrev Calls (c : LineConfig) (v : Level) : Prop :=
  Sounds c v ∧ c.mask = false ∧ c.action = .recall

theorem startedLine_status (c : LineConfig) (v : Level) (now : Nat) :
    (startedLine c {} v now).status =
      if Sounds c v then (if c.edge then .latched else .active) else .normal := by
  unfold startedLine
  by_cases hcode : c.debounce = 0
  · have hwas : lineActive c {} = false := by simp [lineActive]
    have hactive : lineActive c { accepted := some v } = true ↔ Sounds c v := by
      simp [lineActive, LineConfig.activeLevel, hcode]
    rw [if_pos hcode, followStatus_eq]
    simp [hwas, hactive]
  · rw [if_neg hcode, if_neg (fun h => hcode h.1)]

theorem startedLine_inForce (c : LineConfig) (v : Level) (now : Nat) :
    (startedLine c {} v now).status ≠ .normal ↔ Sounds c v := by
  rw [startedLine_status]
  by_cases h : Sounds c v
  · rw [if_pos h]
    exact iff_of_true (by split_ifs <;> decide) h
  · rw [if_neg h]
    exact iff_of_false (by decide) h

theorem statusEvents_started (c : LineConfig) (v : Level) (now : Nat) :
    statusEvents c.mask .normal (startedLine c {} v now).status =
      onlyIf (Sounds c v ∧ c.mask = false) .alarmRaised := by
  by_cases h : Sounds c v
  · rw [statusEvents_leaving rfl ((startedLine_inForce c v now).2 h)]
    exact onlyIf_congr ⟨fun hmask => ⟨h, hmask⟩, And.right⟩ _
  · rw [statusEvents_staying (by simpa using mt (startedLine_inForce c v now).1 h),
      onlyIf_false (fun hs => h hs.1)]

/-- A mode that can only become RECALL has RECALL_ENTERED as its one event. -/
theorem modeEvents_of_rising {s t : State} (h : s.mode = .recall → t.mode = .recall) :
    modeEvents s t = onlyIf (s.mode = .normal ∧ t.mode = .recall) .recallEntered := by
  have hleft : ¬ (s.mode = .recall ∧ t.mode = .normal) := fun ⟨hs, ht⟩ =>
    nomatch (h hs).symm.trans ht
  rw [modeEvents, onlyIf_false hleft, List.append_nil]

/-- The work in hand follows a mode that becomes RECALL once, now or later. -/
theorem WorkFollowsMode.trans {s u v : State} (hs : s.mode = .normal) (h : WorkFollowsMode s u)
    (h' : WorkFollowsMode u v) (hrise : u.mode = .recall → v.mode = .recall) :
    WorkFollowsMode s v := by
  cases hu : u.mode
  · obtain ⟨hgroups, hcancels, htrips, hanswers, hterminals⟩ := h.1 (.inr hu)
    refine h'.of_parts ?_ rfl
    simp only [workParts, hs, hu, hgroups, hcancels, htrips, hanswers, hterminals]
  · obtain ⟨hgroups, hcancels, htrips, hanswers, hterminals⟩ := h'.1 (.inl hu)
    refine h.of_parts rfl ?_
    simp only [workParts, hu, hrise hu, hgroups, hcancels, htrips, hanswers, hterminals]

section
variable {s : State}

/-- Some line below `n` calls for RECALL. -/
abbrev CallsBelow (s : State) (n : Nat) : Prop := ∃ j < n, Calls (s.lineConfig j) (s.input j)

/-- What the start of line `k` raises, the lines before it having started. -/
def startEvents (s : State) (k : Nat) : List EventKind :=
  onlyIf (Sounds (s.lineConfig k) (s.input k) ∧ (s.lineConfig k).mask = false) .alarmRaised ++
    onlyIf (Calls (s.lineConfig k) (s.input k) ∧ ∀ j < k, ¬ Calls (s.lineConfig j) (s.input j))
      .recallEntered

variable (hstands : ModeStands s) (hlines : s.lines = []) (hflag : s.recallFlag = false)
include hlines

theorem startLines_status (n j : Nat) : ((startLines s (List.range n)).line j).status =
    if j < n then (startedLine (s.lineConfig j) {} (s.input j) s.now).status else .normal := by
  have hline : s.line j = {} := by
    rw [State.line, hlines]
    rfl
  rw [startLines_line s List.nodup_range, hline]
  simp only [List.mem_range]
  split_ifs <;> rfl

include hstands hflag

/-- The mode is RECALL as soon as a line has called. -/
theorem startLines_mode {n : Nat} (hn : n ≤ 8) :
    (startLines s (List.range n)).mode = .recall ↔ CallsBelow s n := by
  have hkept : (startLines s (List.range n)).recallFlag = false :=
    (congrArg State.recallFlag (besideLines_startLines s _)).trans hflag
  have hformed : (startLines s (List.range n)).mode = (startLines s (List.range n)).formedMode :=
    (hstands.foldl_startDebounce (List.range n)).1
  rw [hformed, formedMode_iff, hkept, startLines_lineConfig]
  simp only [startLines_status hlines, Bool.false_eq_true, false_or]
  constructor
  · rintro ⟨j, -, hstatus, hmask, haction⟩
    split_ifs at hstatus with hj
    · exact ⟨j, hj, (startedLine_inForce _ _ _).1 hstatus, hmask, haction⟩
    · exact absurd rfl hstatus
  · rintro ⟨j, hj, hsounds, hmask, haction⟩
    refine ⟨j, by omega, ?_, hmask, haction⟩
    rw [if_pos hj]
    exact (startedLine_inForce _ _ _).2 hsounds

theorem startLines_mode_rises {n : Nat} (hn : n < 8)
    (h : (startLines s (List.range n)).mode = .recall) :
    (startLines s (List.range (n + 1))).mode = .recall := by
  obtain ⟨j, hj, hcalls⟩ := (startLines_mode hstands hlines hflag hn.le).1 h
  exact (startLines_mode hstands hlines hflag hn).2 ⟨j, by omega, hcalls⟩

/-- RECALL_ENTERED is the first calling line's. -/
theorem startLines_modeEvents {n : Nat} (hn : n < 8) :
    modeEvents (startLines s (List.range n)) (startLines s (List.range (n + 1))) =
      onlyIf (Calls (s.lineConfig n) (s.input n) ∧
        ∀ j < n, ¬ Calls (s.lineConfig j) (s.input j)) .recallEntered := by
  rw [modeEvents_of_rising (startLines_mode_rises hstands hlines hflag hn)]
  refine onlyIf_congr ?_ _
  have hbefore : (startLines s (List.range n)).mode = .normal ↔ ¬ CallsBelow s n := by
    rw [← startLines_mode hstands hlines hflag hn.le]
    cases (startLines s (List.range n)).mode <;> simp
  rw [hbefore, startLines_mode hstands hlines hflag hn]
  constructor
  · rintro ⟨hnone, j, hj, hcalls⟩
    rcases Nat.lt_succ_iff_lt_or_eq.1 hj with hlt | rfl
    · exact absurd ⟨j, hlt, hcalls⟩ hnone
    · exact ⟨hcalls, fun i hi hc => hnone ⟨i, hi, hc⟩⟩
  · rintro ⟨hcalls, hnone⟩
    exact ⟨fun ⟨j, hj, hc⟩ => hnone j hj hc, n, Nat.lt_succ_self n, hcalls⟩

theorem raised_startLines {n : Nat} (hn : n ≤ 8) :
    Raised s (startLines s (List.range n)) ((List.range n).flatMap (startEvents s)) := by
  induction n with
  | zero => exact .refl s
  | succ n ih =>
    have hraised := raised_startDebounce (startLines s (List.range n)) n
    rw [← startLines_range_succ, startLines_lineConfig, startLines_status hlines,
      startLines_status hlines, if_neg (Nat.lt_irrefl n), if_pos (Nat.lt_succ_self n),
      statusEvents_started, startLines_modeEvents hstands hlines hflag hn] at hraised
    have hevents : (List.range (n + 1)).flatMap (startEvents s) =
        (List.range n).flatMap (startEvents s) ++ startEvents s n := by simp [List.range_succ]
    rw [hevents]
    refine (ih (by omega)).append ?_ hraised
    rw [startLines_frame]

theorem workFollowsMode_startLines {n : Nat} (hn : n ≤ 8) :
    WorkFollowsMode s (startLines s (List.range n)) := by
  have hnormal : s.mode = .normal := hstands.1.trans (formedMode_of_lines_nil hlines hflag)
  induction n with
  | zero => exact ⟨fun _ => ⟨rfl, rfl, rfl, rfl, rfl⟩, fun hn hr => nomatch hn.symm.trans hr⟩
  | succ n ih =>
    have hstep := workFollowsMode_startDebounce (startLines s (List.range n)) n
    rw [← startLines_range_succ] at hstep
    exact (ih (by omega)).trans hnormal hstep (startLines_mode_rises hstands hlines hflag hn)

end

end Sys2Proof.Safety
end

section
/-! SUPPORT. The tables that LOADING_END loads, and the proof of O4 (R147, R184, R190). -/

namespace Sys2Proof.Safety

open Sys2Proof.Machine

/-- The tables are loaded and CLOCK_UNSET raised; the lines are still to start. -/
def loadedPart (s : State) : State :=
  if s.loadTables.clock.isSet then s.loadTables else s.loadTables.raise .clockUnset

section
variable {s : State}

/-- The part as LOADING_END leaves it. -/
def loadingEnded (s : State) : State := startLines (loadedPart s) (List.range 8)

theorem exec_loadingEnd (hheld : s.resetHeld = false) (hloading : s.partState = .loading) :
    exec .loadingEnd s = .next (loadingEnded s) := by
  refine congrArg Host.Outcome.next (if_pos ?_)
  simp [hheld, hloading]

variable (s)

theorem loadTables_frame : s.loadTables = { s with
    partState := s.loadTables.partState, tables := s.loadTables.tables
    population := s.loadTables.population, imageSequence := s.loadTables.imageSequence } := by
  unfold State.loadTables
  split <;> rfl

theorem loadTables_clock : s.loadTables.clock = s.clock := by
  rw [loadTables_frame]

theorem loadedPart_frame : loadedPart s = { s.loadTables with
    events := (loadedPart s).events, notices := (loadedPart s).notices } := by
  unfold loadedPart
  split_ifs <;> rfl

/-- CLOCK_UNSET is raised when the clock is UNSET, and nothing else (R184). -/
theorem raised_loadedPart : Raised { s with tables := s.loadTables.tables } (loadedPart s)
    (onlyIf (s.clock.isSet = false) .clockUnset) := by
  have hloaded : Raised s.loadTables (loadedPart s) (onlyIf (s.clock.isSet = false) .clockUnset) := by
    unfold loadedPart
    rw [loadTables_clock]
    cases hset : s.clock.isSet
    · exact (Raised.refl _).raise
    · exact Raised.refl _
  refine hloaded.of_start (fun j => ?_) ?_ rfl
  · rw [loadTables_frame]
    rfl
  · rw [loadTables_frame]

theorem loadedPart_event : (loadedPart s).event .clockUnset =
    if s.clock.isSet then s.event .clockUnset else bumped s .clockUnset := by
  have hevent : s.loadTables.event = s.event := by
    rw [loadTables_frame]
    rfl
  unfold loadedPart
  rw [loadTables_clock]
  split_ifs
  · rw [hevent]
  · exact (State.raise_event_same _ _).trans (by rw [bumped, ← hevent]; rfl)

/-! ## LOADING_END -/

theorem loadingEnded_frame : loadingEnded s = { s with
    partState := s.loadTables.partState, tables := s.loadTables.tables
    population := s.loadTables.population, imageSequence := s.loadTables.imageSequence
    lines := (loadingEnded s).lines, mode := (loadingEnded s).mode
    groups := (loadingEnded s).groups, cancels := (loadingEnded s).cancels
    trips := (loadingEnded s).trips, answers := (loadingEnded s).answers
    terminals := (loadingEnded s).terminals, events := (loadingEnded s).events
    notices := (loadingEnded s).notices } := by
  have hstarted := startLines_frame (loadedPart s) (List.range 8)
  rw [← loadingEnded] at hstarted
  generalize loadingEnded s = t at hstarted
  rw [hstarted, loadedPart_frame, loadTables_frame]

theorem loadingEnded_tables : (loadingEnded s).tables = s.loadTables.tables :=
  (congrArg State.tables (loadingEnded_frame s)).trans rfl

theorem loadingEnded_lineConfig : (loadingEnded s).lineConfig = (loadedPart s).lineConfig :=
  startLines_lineConfig _ _

theorem loadedPart_parts : (loadedPart s).line = s.line ∧ (loadedPart s).input = s.input ∧
    (loadedPart s).now = s.now ∧ workParts (loadedPart s) = workParts s := by
  rw [loadedPart_frame, loadTables_frame]
  exact ⟨rfl, rfl, rfl, rfl⟩

theorem loadingEnded_line (k : Nat) : (loadingEnded s).line k = if k ≤ 7 then
    startedLine ((loadingEnded s).lineConfig k) (s.line k) (s.input k) s.now else s.line k := by
  obtain ⟨hline, hinput, hnow, -⟩ := loadedPart_parts s
  rw [loadingEnded_lineConfig, loadingEnded, startLines_line _ List.nodup_range, hline, hinput, hnow]
  exact if_congr (List.mem_range.trans Nat.lt_succ_iff) rfl rfl

theorem loadingEnded_event : (loadingEnded s).event .clockUnset =
    if s.clock.isSet then s.event .clockUnset else bumped s .clockUnset :=
  (startLines_event _ _ (by decide)).trans (loadedPart_event s)

/-- With every debounce code above 0 the lines' timers start, and that is all. -/
theorem loadingEnded_of_ne_zero (h : ∀ k ≤ 7, ((loadingEnded s).lineConfig k).debounce ≠ 0) :
    loadingEnded s = { loadedPart s with lines := (loadingEnded s).lines } := by
  rw [loadingEnded_lineConfig] at h
  exact startLines_of_ne_zero _ fun k hk => h k (Nat.lt_succ_iff.1 (List.mem_range.1 hk))

variable {s}

/-- The lines start from their reset values, and the mode from NORMAL. -/
theorem ModeFollows.loadedPart (h : ModeFollows s) (hloading : s.partState = .loading) :
    ModeStands (loadedPart s) ∧ (loadedPart s).lines = [] ∧ (loadedPart s).recallFlag = false := by
  obtain ⟨hlines, hflag⟩ := ((modeFollows_iff s).1 h).2 hloading
  refine ⟨(h.loadTables hloading).of_parts ?_, ?_, ?_⟩
  · rw [loadedPart_frame]
    rfl
  · rw [loadedPart_frame, loadTables_frame]
    exact hlines
  · rw [loadedPart_frame, loadTables_frame]
    exact hflag

end

/-- Settles O4: the frame is that of the load and of the lines' starts, each line's state that of its own start
(`startLines_line`), and from the reset values the events and the mode follow line by line (`raised_startLines`,
`startLines_mode`). -/
theorem loadingEndLoadsTheTables : Obligations.LoadingEndLoadsTheTables := by
  intro s hheld hloading
  refine ⟨_, exec_loadingEnd hheld hloading, ?_⟩
  have hframe := loadingEnded_frame s
  have hraised := raised_loadedPart s
  rw [← loadingEnded_tables] at hraised
  intro unset loaded
  refine ⟨fun i hi => ?_, fun hi => ?_, fun k hk => ⟨fun hcode => ?_, fun hcode => ?_⟩, fun k hk => ?_,
    loadingEnded_event s, ?_, fun hcodes => ⟨?_, ?_⟩, fun hfollows => ?_⟩
  · rw [hframe]
    simp [State.loadTables, hi]
  · rw [hframe]
    simp [State.loadTables, hi]
  · rw [loadingEnded_line, if_pos hk, startedLine, if_pos hcode]
    exact ⟨rfl, rfl⟩
  · rw [loadingEnded_line, if_pos hk, startedLine, if_neg hcode]
  · rw [loadingEnded_line, if_neg (Nat.not_le.2 hk)]
  · rw [hframe]
  · refine hraised.of_end ?_ ?_ <;> rw [loadingEnded_of_ne_zero s hcodes]
  · rw [loadingEnded_of_ne_zero s hcodes, loadedPart_frame, loadTables_frame]
  · obtain ⟨hstands, hlines, hflag⟩ := hfollows.loadedPart hloading
    obtain ⟨hline, hinput, -, hwork⟩ := loadedPart_parts s
    have hmode := startLines_mode hstands hlines hflag le_rfl
    have hstarted := raised_startLines hstands hlines hflag le_rfl
    have hfollow := workFollowsMode_startLines hstands hlines hflag le_rfl
    unfold CallsBelow at hmode
    unfold startEvents at hstarted
    rw [hinput] at hmode hstarted
    simp only [Nat.lt_succ_iff] at hmode
    rw [loadingEnded_lineConfig]
    intro c sounds calls
    refine ⟨fun k hk => ?_, ?_, hmode, hfollow.of_parts hwork.symm rfl⟩
    · have hreset : s.line k = {} := by
        rw [← hline, State.line, hlines]
        rfl
      rw [loadingEnded_line, if_pos hk, hreset, startedLine_status, loadingEnded_lineConfig]
    · refine hraised.append ?_ hstarted
      rw [loadedPart_frame, loadingEnded_tables]

end Sys2Proof.Safety
end

section
/-! SUPPORT. The step with a command waiting, and the proof of O1 (assumption log 1). -/

namespace Sys2Proof.Safety

open Sys2Proof.Machine

/-- Settles O1: the queue is not empty, so the step is the branch that takes its front; the step with an empty
queue is O2's. -/
theorem stepRunsTheFrontCommand : Obligations.StepRunsTheFrontCommand := by
  intro c rest s hwaiting
  rw [step, hwaiting]

end Sys2Proof.Safety
end
